-- ==== Sys2Proof/Word.lean ====
section
/-! DEFINITION. The words of the part: a character of a line or a port, and a value of the TU counter.
Everything else the manual counts (flow units, per mille, seconds, positions) is a natural number. -/

namespace Sys2Proof

/-- One character of the zone line or of the service port, or one byte of the record. -/
abbrev Byte := BitVec 8

/-- A value of the TU counter: an unsigned 32-bit count of 100 µs units that wraps (R13). -/
abbrev Tu := BitVec 32

/-- The TU value `n` time units after `t`, modulo 2³². -/
def tuAfter (t : Tu) (n : Nat) : Tu := t + BitVec.ofNat 32 n

/-- The age of a stamp (R13): the present value minus the stamp, modulo 2³². -/
def tuAge (now stamp : Tu) : Nat := (now - stamp).toNat

end Sys2Proof
end

