-- ==== Sys2Proof/Config.lean ====
section
/-! DEFINITION. What the part fixes: the capacities of its lists, the limits of its counters and the times
that the manual states as constants. The manual leaves no value of the part open, so nothing here is opaque. -/

namespace Sys2Proof.Config

/-- R1: the most entries the Peer View holds. -/
def viewCapacity : Nat := 24
/-- R142: the places of FIFO A. -/
def fifoACapacity : Nat := 2
/-- R142: the places of FIFO B. -/
def fifoBCapacity : Nat := 8
/-- R98: the most entries the Start List holds. -/
def startListCapacity : Nat := 16
/-- R5, R146, R143, R104: the value at which the 16-bit counters stay. -/
def counterMax : Nat := 65535
/-- R131: the count of consecutive transmit failures that isolates the station. -/
def failureLimit : Nat := 16
/-- R152, R156: the failed sends after which a claim or a status is dropped. -/
def attemptLimit : Nat := 3

/-- R14: the TU of one 100 ms step. -/
def stepTu : Nat := 1000
/-- R58, R76, R112: the TU of one second. -/
def secondTu : Nat := 10000
/-- R53: how long an input must differ before its filtered value follows (200 ms). -/
def filterTu : Nat := 2000
/-- R37: the period of the sample timer (250 ms). -/
def sampleTu : Nat := 2500
/-- R111: how long a resting limit may be lost (1 s). -/
def limitLossTu : Nat := 10000
/-- R102: the unit of the backoff time (500 ms). -/
def backoffTu : Nat := 5000
/-- R153: the spacing between two status starts (100 ms). -/
def spacingTu : Nat := 1000
/-- R130: how long a line must be recessive before LINE_STUCK clears (1 s). -/
def clearRunTu : Nat := 10000
/-- R120: the most TU from the first sample of a recessive run to the moment at which it makes the line IDLE (log entry
13). -/
def idleRunTu : Nat := 5
/-- R158: the period of the probe instants. -/
def probePeriodTu : Nat := 10000
/-- R158: the distance between the probe instants of two station numbers. -/
def probeSpacingTu : Nat := 250
/-- R166: the silence that ends a partial request (50 ms). -/
def serviceGapTu : Nat := 500
/-- R27, R173: the least time that a pass or a record write takes. -/
def shortestJobTu : Nat := 1

/-- R14: a FRESH entry is STALE when older than this many of its periods. -/
def stalePeriods : Nat := 4
/-- R14: an entry is LOST, or deleted, when older than this many of its periods. -/
def lostPeriods : Nat := 16
/-- R10, R9: the greatest demand a frame may report, in FU. -/
def demandMax : Nat := 2000
/-- R5, R172: the most stations the counted filters of a record may match, the own number apart. -/
def neighbourMax : Nat := 12

/-- R166: the greatest length of a request. -/
def requestMax : Nat := 200
/-- R168: the part code that IDENTIFY returns. -/
def partCode : Nat := 416
/-- R168: the revision that IDENTIFY returns. -/
def revision : Nat := 1
/-- R171: the length of the commissioning record. -/
def recordLength : Nat := 90
/-- R160: the number of point addresses. -/
def pointCount : Nat := 128

end Sys2Proof.Config
end

