-- ==== Sys2Proof/Syntax.lean ====
section
/-! DEFINITION. The commands of the part: one constructor of `Instr` for each row of the table, and the types of
their operands. Every command but the two of reset carries `dt`, the time units that have passed since the
command before it (log entry 1). -/

namespace Sys2Proof

/-- The two fans (chapter 6). -/
inductive Fan where
  | A
  | B
  deriving DecidableEq, Repr

/-- An index 0 to 3: a fire point F0–F3, a fume channel 0–3 or a transfer damper TD0–TD3. -/
inductive Ix4 where
  | i0
  | i1
  | i2
  | i3
  deriving DecidableEq, Repr

/-- The six dampers (chapter 7): the extract damper of a fan, or a transfer damper. -/
inductive DamperId where
  | ed (f : Fan)
  | td (k : Ix4)
  deriving DecidableEq, Repr

/-- The two limit switches of a damper. -/
inductive LimitId where
  | openLimit
  | closedLimit
  deriving DecidableEq, Repr

/-- The five filtered inputs (R53): the fire points and the fire reset key. -/
inductive InputId where
  | point (p : Ix4)
  | key
  deriving DecidableEq, Repr

/-- One value for each index 0 to 3. -/
structure Quad (α : Type) where
  x0 : α
  x1 : α
  x2 : α
  x3 : α
  deriving DecidableEq, Repr

/-- One value for each fan. -/
structure PerFan (α : Type) where
  a : α
  b : α
  deriving DecidableEq, Repr

/-- One value for each damper. -/
structure PerDamper (α : Type) where
  ed : PerFan α
  td : Quad α
  deriving DecidableEq, Repr

/-- One value for each filtered input. -/
structure Inputs (α : Type) where
  points : Quad α
  key    : α
  deriving DecidableEq, Repr

/-- What follows the command code of a complete request (R167): its data bytes, of which the length character
counted that many, and its checksum byte. -/
structure Request where
  data  : List Byte
  check : Byte
  deriving DecidableEq, Repr

/-- R120, R130: what LINE_IDLE brings: `dt`, the TU since the command before it, and `run`, the TU since the first of the
recessive samples that make the line IDLE (log entry 13). -/
structure IdleRun where
  dt  : Tu
  run : Tu
  deriving DecidableEq, Repr

/-- The levels of the three inputs that no command announces, as they stand when READ POINTS is taken: the
line-rate strap and the two tachometers (R160; log entry 3). -/
structure LiveLines where
  strap : Bool
  tachA : Bool
  tachB : Bool
  deriving DecidableEq, Repr

/-- A reading of a fume channel: 0–1023 at 50 counts per mA (3.1). -/
abbrev Reading := Fin 1024

/-- The commands, in the order of the table. -/
inductive Instr where
  /-- R174: the RESET input or power-up. -/
  | hardwareReset
  /-- R174: reset release, with the strap and the hold line as they are sampled. -/
  | resetRelease (strap hold : Bool)
  /-- R72: the hold line changes to `active`. -/
  | holdLineChange (dt : Tu) (active : Bool)
  /-- R53: the raw level of an input changes to `active`. -/
  | rawInputChange (dt : Tu) (input : InputId) (active : Bool)
  /-- R53: an input's run reaches 200 ms and its filtered value becomes active. -/
  | activation (dt : Tu) (input : InputId)
  /-- R53: an input's run reaches 200 ms and its filtered value becomes inactive. -/
  | deactivation (dt : Tu) (input : InputId)
  /-- R58 -/
  | confirmationTimerExpiry (dt : Tu)
  /-- R73 -/
  | listenTimerExpiry (dt : Tu)
  /-- R76 -/
  | purgeTimerExpiry (dt : Tu)
  /-- R37: the sample timer expires, with the readings of the four channels at that instant. -/
  | sampleEvent (dt : Tu) (readings : Quad Reading)
  /-- R14 -/
  | sweep (dt : Tu)
  /-- R10 -/
  | digestZoneStatus (dt : Tu)
  /-- R11 -/
  | digestFireAlarm (dt : Tu)
  /-- R12 -/
  | digestFireReset (dt : Tu)
  /-- R28 -/
  | passComplete (dt : Tu)
  /-- R90 -/
  | setpointStep (dt : Tu)
  /-- R102 -/
  | backoffTimerExpiry (dt : Tu) (fan : Fan)
  /-- R100: the expiry of the head of the Start List, its entry of earliest expiry (R98). -/
  | startEntryExpiry (dt : Tu)
  /-- R95 -/
  | rundownTimerExpiry (dt : Tu) (fan : Fan)
  /-- R104: a rising edge of a fan's tachometer input. -/
  | tachPulse (dt : Tu) (fan : Fan)
  /-- R105 -/
  | provingWindowEnd (dt : Tu) (fan : Fan)
  /-- R111, R112: a limit input of a damper changes to `active`. -/
  | limitChange (dt : Tu) (damper : DamperId) (limit : LimitId) (active : Bool)
  /-- R112 -/
  | travelTimerExpiry (dt : Tu) (damper : DamperId)
  /-- R111 -/
  | limitLossTimerExpiry (dt : Tu) (damper : DamperId)
  /-- R120: the twelfth consecutive recessive sample. -/
  | lineIdle (idle : IdleRun)
  /-- R124 -/
  | frameStart (dt : Tu)
  /-- R125 -/
  | contentionLost (dt : Tu)
  /-- R126 -/
  | bitError (dt : Tu)
  /-- R129 -/
  | lineStuckDetected (dt : Tu)
  /-- R130 -/
  | lineStuckClear (dt : Tu)
  /-- R128: the characters received so far, and whether the last one's stop bit was sampled dominant. -/
  | frameCondemned (dt : Tu) (chars : List Byte) (framingError : Bool)
  /-- R138: the last character of a frame completes; `chars` are the frame's characters as the line carried them.
  For the station's own frame the line carries what the station built (R137) and `chars` is not read. -/
  | frameArrival (dt : Tu) (chars : List Byte)
  /-- R154 -/
  | heartbeatExpiry (dt : Tu)
  /-- R155 -/
  | spacingTimerExpiry (dt : Tu)
  /-- R158 -/
  | probeInstant (dt : Tu)
  /-- R166: 50 ms without a character, after the characters `chars` of a request that is not complete. -/
  | serviceTimeout (dt : Tu) (chars : List Byte)
  /-- R168, code 0x01 -/
  | identify (dt : Tu) (req : Request)
  /-- R168, code 0x10 -/
  | readState (dt : Tu) (req : Request)
  /-- R168, code 0x11 -/
  | readPeer (dt : Tu) (req : Request)
  /-- R168, code 0x12 -/
  | readStarts (dt : Tu) (req : Request)
  /-- R168, code 0x20 -/
  | readPoints (dt : Tu) (req : Request) (live : LiveLines)
  /-- R168, code 0x21 -/
  | modifyPoints (dt : Tu) (req : Request)
  /-- R168, code 0x22 -/
  | releasePoints (dt : Tu) (req : Request)
  /-- R168, code 0x30 -/
  | fireReset (dt : Tu) (req : Request)
  /-- R168, code 0x31 -/
  | clearFaults (dt : Tu) (req : Request)
  /-- R168, code 0x40 -/
  | loadRecord (dt : Tu) (req : Request)
  /-- R168, code 0x41 -/
  | readRecord (dt : Tu) (req : Request)
  /-- R173 -/
  | recordWriteComplete (dt : Tu)
  /-- R120, R136: the start bit of a character that the station does not drive. -/
  | anothersStartBit (dt : Tu)
  /-- R166 -/
  | responseSent (dt : Tu)
  /-- R166: after the characters `chars` of a request that is not complete, one more whose stop bit is low. -/
  | serviceFramingError (dt : Tu) (chars : List Byte)
  /-- R167: a complete request whose code is not in the command table. -/
  | unknownCommand (dt : Tu) (code : Byte) (req : Request)
  deriving DecidableEq, Repr

namespace Quad

/-- The value at an index. -/
def get {α : Type} (q : Quad α) : Ix4 → α
  | .i0 => q.x0
  | .i1 => q.x1
  | .i2 => q.x2
  | .i3 => q.x3

/-- `q` with `v` at one index. -/
def set {α : Type} (q : Quad α) (i : Ix4) (v : α) : Quad α :=
  match i with
  | .i0 => { q with x0 := v }
  | .i1 => { q with x1 := v }
  | .i2 => { q with x2 := v }
  | .i3 => { q with x3 := v }

/-- The same value at every index. -/
def all {α : Type} (v : α) : Quad α := ⟨v, v, v, v⟩

/-- The values in index order. -/
def toList {α : Type} (q : Quad α) : List α := [q.x0, q.x1, q.x2, q.x3]

end Quad

namespace PerFan

/-- The value of a fan. -/
def get {α : Type} (p : PerFan α) : Fan → α
  | .A => p.a
  | .B => p.b

/-- `p` with `v` for one fan. -/
def set {α : Type} (p : PerFan α) (f : Fan) (v : α) : PerFan α :=
  match f with
  | .A => { p with a := v }
  | .B => { p with b := v }

/-- The same value for both fans. -/
def all {α : Type} (v : α) : PerFan α := ⟨v, v⟩

end PerFan

namespace PerDamper

/-- The value of a damper. -/
def get {α : Type} (p : PerDamper α) : DamperId → α
  | .ed f => p.ed.get f
  | .td k => p.td.get k

/-- `p` with `v` for one damper. -/
def set {α : Type} (p : PerDamper α) (d : DamperId) (v : α) : PerDamper α :=
  match d with
  | .ed f => { p with ed := p.ed.set f v }
  | .td k => { p with td := p.td.set k v }

/-- The same value for every damper. -/
def all {α : Type} (v : α) : PerDamper α := ⟨PerFan.all v, Quad.all v⟩

end PerDamper

namespace Inputs

/-- The value of an input. -/
def get {α : Type} (p : Inputs α) : InputId → α
  | .point i => p.points.get i
  | .key => p.key

/-- `p` with `v` for one input. -/
def set {α : Type} (p : Inputs α) (i : InputId) (v : α) : Inputs α :=
  match i with
  | .point j => { p with points := p.points.set j v }
  | .key => { p with key := v }

/-- The same value for every input. -/
def all {α : Type} (v : α) : Inputs α := ⟨Quad.all v, v⟩

end Inputs

/-- The other fan. -/
def Fan.other : Fan → Fan
  | .A => .B
  | .B => .A

/-- The number of an index. -/
def Ix4.num : Ix4 → Nat
  | .i0 => 0
  | .i1 => 1
  | .i2 => 2
  | .i3 => 3

/-- The four indices in order. -/
def Ix4.all : List Ix4 := [.i0, .i1, .i2, .i3]

/-- The number of a damper (chapter 7): 0 ED-A, 1 ED-B, 2–5 TD0–TD3. -/
def DamperId.num : DamperId → Nat
  | .ed .A => 0
  | .ed .B => 1
  | .td k => 2 + k.num

/-- The six dampers in the order of their numbers. -/
def DamperId.all : List DamperId := [.ed .A, .ed .B, .td .i0, .td .i1, .td .i2, .td .i3]

/-- The five inputs in the order of their points. -/
def InputId.all : List InputId := [.point .i0, .point .i1, .point .i2, .point .i3, .key]

end Sys2Proof
end

