-- ==== Sys2Proof/Decode.lean ====
section
/-! DEFINITION. The command that a word spells by the bits of the table. No row of spec/opcode_table.json gives bits:
the part takes events and requests, and no instruction words (log entry 20). -/

namespace Sys2Proof

/-- The command of a word of `nbits` bits: none, since no row of the table has bits to spell it. -/
def decodeTableWord (_nbits _w : Nat) : Option Instr := none

end Sys2Proof
end

