-- ==== Sys2Proof/Machine/State.lean ====
section
/-! DEFINITION. The state of the part as plain data, block by block, and its value right after reset.
What the manual gives as a function of other state (relay drives, outputs, Fmax_eff, DEGRADED, the pre-alarm
hit set, the cause code) is computed in Machine/Flags.lean and has no field here (log entry 4). -/

namespace Sys2Proof.Machine

/-- Why the part stops. No command of the table stops it: the manual gives every one of them its effect, so
there is no constructor, and no meaning can raise a fault (log entry 5). -/
inductive Fault where
  deriving DecidableEq, Repr

/-- Why a command is refused. -/
inductive Refusal where
  /-- Raised by an arm of `exec` alone, for a row that has no meaning yet; safe. No arm raises it. -/
  | notModelled (mnemonic : String)
  deriving DecidableEq, Repr

/-! ### Names the manual gives in capitals -/

/-- Demand classes, by number 0–5. -/
inductive DemandClass where
  | idle
  | fume1
  | fume2
  | fume3
  | contain
  | fire
  deriving DecidableEq, Repr

/-- The number of a demand class. -/
def DemandClass.num : DemandClass → Nat
  | .idle => 0
  | .fume1 => 1
  | .fume2 => 2
  | .fume3 => 3
  | .contain => 4
  | .fire => 5

/-- Fume classes, 0–3 (R36). -/
inductive FumeClass where
  | idle
  | fume1
  | fume2
  | fume3
  deriving DecidableEq, Repr

/-- The number of a fume class. -/
def FumeClass.num : FumeClass → Nat
  | .idle => 0
  | .fume1 => 1
  | .fume2 => 2
  | .fume3 => 3

/-- The zone modes (chapter 5). -/
inductive Mode where
  | hold
  | listen
  | normal
  | contain
  | fire
  | purge
  deriving DecidableEq, Repr

/-- Age state of a peer entry (R2). -/
inductive Freshness where
  | fresh
  | stale
  | lost
  deriving DecidableEq, Repr

/-- The declaration states (chapter 4). -/
inductive Declaration where
  | clear
  | preAlarm
  | declared
  deriving DecidableEq, Repr

/-- The declaration causes (R51). -/
inductive FireCause where
  | heat
  | manual
  | panel
  | smokeTwo
  | smokeConfirmed
  deriving DecidableEq, Repr

/-- The source of a reset request (R63). -/
inductive ResetSource where
  | key
  | service
  deriving DecidableEq, Repr

/-- The fan states (R87). -/
inductive FanState where
  | stopped
  | waitDamper
  | waitSlot
  | starting
  | running
  | rundown
  | faulted
  deriving DecidableEq, Repr

/-- The fault causes of a fan (R96). -/
inductive FanFault where
  | damper
  | proving
  deriving DecidableEq, Repr

/-- The claim states of a fan (R101, R102). -/
inductive ClaimState where
  | none
  | waiting
  | sending
  | backoff
  | abandoned
  deriving DecidableEq, Repr

/-- The damper states (R107). -/
inductive DamperState where
  | closed
  | opening
  | opened
  | closing
  | stuck
  deriving DecidableEq, Repr

/-- Why a damper is STUCK (R107). -/
inductive StuckReason where
  | travel
  | limitLoss
  | bothLimits
  deriving DecidableEq, Repr

/-- Health of a fume channel (R36). -/
inductive Health where
  | healthy
  | holding
  | faulted
  deriving DecidableEq, Repr

/-- Pass result flags (R33). -/
inductive ResultFlag where
  | nil
  | full
  | short
  | none
  deriving DecidableEq, Repr

/-- Types of fire points (4.1). -/
inductive PointType where
  | unused
  | smoke
  | heat
  | manual
  | panel
  deriving DecidableEq, Repr

/-- The line state (R120). -/
inductive LineState where
  | idle
  | receiving
  | sending
  deriving DecidableEq, Repr

/-- The line rate (R118). -/
inductive LineRate where
  | r38400
  | r115200
  deriving DecidableEq, Repr

/-- The assembly state of the Frame Receiver (R135, R136). -/
inductive AssemblyState where
  | skipping
  | ready
  | assembling
  | tail
  deriving DecidableEq, Repr

/-- The own-attempt mark (R137). -/
inductive AttemptMark where
  | none
  | sending
  | lost
  | failed
  deriving DecidableEq, Repr

/-- How the CLAIM slot is marked (R147). -/
inductive SlotMark where
  | waiting
  | onLine
  | abandoned
  deriving DecidableEq, Repr

/-- The state of the request assembly of the service port (R166). -/
inductive PortState where
  | ready
  | assembling
  | skipping
  deriving DecidableEq, Repr

/-- An index of an adjacency filter, 0–5; a hit is one of them or NONE (R141). -/
abbrev FilterIx := Fin 6

/-- A station number, 0–31. -/
abbrev Station := Fin 32

/-! ### The commissioning record -/

/-- An adjacency filter (R141). -/
structure Filter where
  value : Byte
  mask  : Byte
  deriving DecidableEq, Repr

/-- The ramp and minimum speed of a profile (R81). -/
structure Profile where
  ramp     : Nat
  minSpeed : Nat
  deriving DecidableEq, Repr

/-- A pair of thresholds of a fume class (3.1). -/
structure Threshold where
  upper : Nat
  lower : Nat
  deriving DecidableEq, Repr

/-- The fields of a commissioning record (R171); `filters` are the counted ones. -/
structure Record where
  station       : Station
  capacity      : Nat
  fanCount      : Nat
  rating        : Nat
  startLimit    : Nat
  startWindow   : Nat
  runDown       : Nat
  provingWindow : Nat
  pulsesFull    : Nat
  provingRatio  : Nat
  period        : Nat
  filters       : List Filter
  types         : Quad PointType
  confirmTime   : Nat
  purgeTime     : Nat
  enables       : Quad Bool
  gains         : Quad Nat
  fume1         : Threshold
  fume2         : Threshold
  fume3         : Threshold
  fallback      : Nat
  isolatedShare : Nat
  travelTimeout : Nat
  fitted        : Quad Bool
  facing        : Quad (Option FilterIx)
  idleLevel     : Nat
  fume1Level    : Nat
  fume2Level    : Nat
  fume3Level    : Nat
  normal        : Profile
  fireLevel     : Nat
  containLevel  : Nat
  fire          : Profile
  deriving DecidableEq, Repr

/-- What a station without a valid record works from: no fan fitted, every point UNUSED, no channel enabled, no
filter, no damper fitted and a rating of 0 (R67, R88, R108, R145, R174). -/
def Record.absent : Record :=
  { station := 0, capacity := 0, fanCount := 0, rating := 0, startLimit := 0, startWindow := 0, runDown := 0,
    provingWindow := 0, pulsesFull := 0, provingRatio := 0, period := 0, filters := [],
    types := Quad.all .unused, confirmTime := 0, purgeTime := 0, enables := Quad.all false,
    gains := Quad.all 0, fume1 := ⟨0, 0⟩, fume2 := ⟨0, 0⟩, fume3 := ⟨0, 0⟩, fallback := 0,
    isolatedShare := 0, travelTimeout := 0, fitted := Quad.all false, facing := Quad.all none,
    idleLevel := 0, fume1Level := 0, fume2Level := 0, fume3Level := 0, normal := ⟨0, 0⟩,
    fireLevel := 0, containLevel := 0, fire := ⟨0, 0⟩ }

/-- A record write in progress (R173): the bytes being written and the moment it began. -/
structure WriteJob where
  bytes   : List Byte
  started : Tu
  deriving DecidableEq, Repr

/-- The Record Store (R171, R173); `record` is the record in force, `none` while it is invalid. -/
structure Store where
  bytes   : List Byte
  record  : Option Record
  writing : Option WriteJob
  deriving DecidableEq, Repr

/-! ### Field lines -/

/-- The two limit inputs of a damper, active or not. -/
structure Limits where
  openLimit   : Bool
  closedLimit : Bool
  deriving DecidableEq, Repr

/-- The levels on the input lines (12.7), as the last command that announced them left them. -/
structure Pins where
  raw    : Inputs Bool
  hold   : Bool
  strap  : Bool
  tach   : PerFan Bool
  limits : PerDamper Limits
  deriving DecidableEq, Repr

/-! ### Chapter 1: the Peer View -/

/-- The four flags of a ZONE_STATUS (R2, R122). -/
structure PeerFlags where
  preAlarm : Bool
  fanFault : Bool
  short    : Bool
  isolated : Bool
  deriving DecidableEq, Repr

/-- No flag present. -/
def PeerFlags.absent : PeerFlags := ⟨false, false, false, false⟩

/-- A peer entry (R2). -/
structure PeerEntry where
  origin      : Station
  hit         : Option FilterIx
  cls         : DemandClass
  demand      : Nat
  flags       : PeerFlags
  period      : Nat
  assumed     : Bool
  last        : Tu
  fresh       : Freshness
  provisional : Bool
  deriving DecidableEq, Repr

/-- The Peer View (R1, R5, R7, R33): its entries in ascending order of origin, VIEW_REFUSED, and what it holds
back while a pass freezes it. -/
structure View where
  entries      : List PeerEntry
  refused      : Nat
  pendingSweep : Bool
  pendingEmpty : Bool
  deriving DecidableEq, Repr

/-! ### Chapter 2: the Share Computer -/

/-- The sampled inputs of the pass in flight (R21, R27), with C and Q (log entry 8) and its start. -/
structure Sampled where
  cls      : DemandClass
  demand   : Nat
  fmax     : Nat
  isolated : Bool
  capacity : Nat
  share    : Nat
  started  : Tu
  deriving DecidableEq, Repr

/-- The published results of a pass (R21). -/
structure Results where
  grant   : Nat
  flag    : ResultFlag
  rOwn    : Nat
  sOwn    : Nat
  isoRule : Bool
  t       : Nat
  deriving DecidableEq, Repr

/-- The Share Computer (R21). The pass state is IDLE when `pass` is `none`. `requested` is the model's own: a pass
requested within the event being taken, served at its end and clear between events (log entry 7). -/
structure Share where
  cls       : DemandClass
  demand    : Nat
  pass      : Option Sampled
  again     : Bool
  results   : Results
  shortFlag : Bool
  requested : Bool
  deriving DecidableEq, Repr

/-! ### Chapter 3: the Fume Monitor -/

/-- A fume channel (R36): `history` is empty or holds four raw indices, oldest first. -/
structure FumeChannel where
  health       : Health
  history      : List Nat
  holdCount    : Nat
  contribution : Nat
  deriving DecidableEq, Repr

/-- A channel after reset. -/
def FumeChannel.initial : FumeChannel := ⟨.healthy, [], 0, 0⟩

/-- The Fume Monitor (R36, R37): the sample timer's next expiry, the channels, F and the fume class. -/
structure Fume where
  sampleExpiry : Tu
  channels     : Quad FumeChannel
  index        : Nat
  cls          : FumeClass
  deriving DecidableEq, Repr

/-! ### Chapter 4: the Fire Point Monitor -/

/-- The Fire Point Monitor (R51). The types are those of the record in force. -/
structure Monitor where
  filtered   : Inputs Bool
  run        : Inputs (Option Tu)
  latch      : Quad Bool
  evaluation : Bool
  decl       : Declaration
  confirm    : Option Tu
  cause      : Option FireCause
  deriving DecidableEq, Repr

/-! ### Chapter 5: the Mode Controller -/

/-- The Mode Controller (R69): the mode, the contain list in ascending order, and its two timers. -/
structure Zone where
  mode    : Mode
  contain : List Station
  listen  : Option Tu
  purge   : Option Tu
  deriving DecidableEq, Repr

/-! ### Chapter 6: the Fan Controller -/

/-- One fan (R87). `window` is the proving window counter, `none` while the fan is not fitted. -/
structure FanUnit where
  state   : FanState
  cause   : Option FanFault
  claim   : ClaimState
  backoff : Option Tu
  rundown : Option Tu
  window  : Option Nat
  pulses  : Nat
  judge   : Bool
  low     : Nat
  deriving DecidableEq, Repr

/-- A fan after reset, without a valid record. -/
def FanUnit.initial : FanUnit := ⟨.stopped, none, .none, none, none, none, 0, false, 0⟩

/-- An entry of the Start List (R98). -/
structure ClaimEntry where
  origin  : Station
  fan     : Fan
  fire    : Bool
  arrival : Tu
  expiry  : Tu
  deriving DecidableEq, Repr

/-- The Fan Controller (R87): the fans, the staging count, the target in use, the current setpoint s and the Start
List from head to tail. `begun` is the model's own: the fans whose claim was started within the event being taken; the
claims are placed as it ends, fan A's first, and the marks are clear between events (log entry 10). -/
structure Fans where
  units    : PerFan FanUnit
  staging  : Nat
  target   : Nat
  setpoint : Nat
  starts   : List ClaimEntry
  begun    : PerFan Bool
  deriving DecidableEq, Repr

/-! ### Chapter 7: the Damper Controller -/

/-- One damper (R107). Its owner and effective commands are computed from their owners (log entry 4). -/
structure DamperUnit where
  fitted : Bool
  state  : DamperState
  travel : Option Tu
  loss   : Option Tu
  reason : Option StuckReason
  deriving DecidableEq, Repr

/-- A damper at reset, and a damper that is not fitted (R107, R108). -/
def DamperUnit.unfitted : DamperUnit := ⟨false, .closed, none, none, none⟩

/-! ### Chapters 8 to 10: the zone line -/

/-- The Line Interface (chapter 8). `clearRun` is the moment of the first recessive sample of the run that last made the line
IDLE, from which R130 counts (log entry 13). -/
structure Line where
  state    : LineState
  rate     : LineRate
  failures : Nat
  isolated : Bool
  stuck    : Bool
  clearRun : Tu
  deriving DecidableEq, Repr

/-- What a FIFO keeps of a frame's payload, as received (R142). -/
inductive FifoBody where
  | fireAlarm (demand : BitVec 16)
  | fireReset
  | zoneStatus (cls : Byte) (demand : BitVec 16) (flags : PeerFlags) (period : Byte)
  deriving DecidableEq, Repr

/-- An entry of a receive FIFO (R142). -/
structure FifoEntry where
  origin  : Station
  hit     : Option FilterIx
  arrival : Tu
  body    : FifoBody
  deriving DecidableEq, Repr

/-- The Frame Receiver (R135). -/
structure Receiver where
  asm       : AssemblyState
  buffer    : List Byte
  mark      : AttemptMark
  fifoA     : List FifoEntry
  fifoB     : List FifoEntry
  errors    : Nat
  lost      : Nat
  duplicate : Bool
  deriving DecidableEq, Repr

/-- A content of the URGENT slot (R149). -/
inductive Urgent where
  | fireAlarm (cause : FireCause) (demand : Nat)
  | fireReset (source : ResetSource)
  deriving DecidableEq, Repr

/-- The content of a frame that the station sends (R122). -/
inductive Content where
  | urgent (u : Urgent)
  | claim (fan : Fan) (fire : Bool)
  | status (cls : DemandClass) (demand : Nat) (flags : PeerFlags) (period : Nat)
  deriving DecidableEq, Repr

/-- The attempt on the line (R124): the content given at its start, and whether it is a probe (R158). -/
structure Attempt where
  content : Content
  probe   : Bool
  deriving DecidableEq, Repr

/-- The claim in the CLAIM slot (R147). -/
structure ClaimSlot where
  fan  : Fan
  mark : SlotMark
  deriving DecidableEq, Repr

/-- The Transmit Unit (R147). The URGENT content on the line is the content of `onLine` when that is urgent. While the
CLAIM slot is empty `claimAttempts` is 0 (log entry 27). -/
structure Transmit where
  onLine         : Option Attempt
  urgent         : Option Urgent
  slot           : Option ClaimSlot
  requests       : PerFan Bool
  claimAttempts  : Nat
  statusPending  : Bool
  changeMark     : Bool
  statusAttempts : Nat
  heartbeat      : Option Tu
  spacing        : Option Tu
  isolatedMark   : Bool
  probeOffer     : Bool
  deriving DecidableEq, Repr

/-! ### Chapters 11 and 12: the Point Space and the Service Port -/

/-- A force record (R159). -/
structure Force where
  flag  : Bool
  value : Bool
  deriving DecidableEq, Repr

/-- A force record after reset. -/
def Force.clear : Force := ⟨false, false⟩

/-- The force records of points 72–77, 80 and 81 (R159). -/
structure Forces where
  dampers : PerDamper Force
  fire    : Force
  fault   : Force
  deriving DecidableEq, Repr

/-- Every force record clear. -/
def Forces.clear : Forces := ⟨PerDamper.all Force.clear, Force.clear, Force.clear⟩

/-- The Service Port (R166): the request assembly, the time at which the last character completed, the busy mark,
and the characters of the response in progress (empty when there is none). -/
structure Port where
  state    : PortState
  chars    : List Byte
  lastChar : Tu
  busy     : Bool
  response : List Byte
  deriving DecidableEq, Repr

/-! ### The whole part -/

/-- The state of the part. `released` is false from reset to reset release; `pending` is the queue of the
commands that are waiting, first in, first out. -/
structure State where
  tu       : Tu
  released : Bool
  pins     : Pins
  store    : Store
  view     : View
  share    : Share
  fume     : Fume
  monitor  : Monitor
  zone     : Zone
  fans     : Fans
  dampers  : PerDamper DamperUnit
  line     : Line
  rx       : Receiver
  tx       : Transmit
  forces   : Forces
  port     : Port
  pending  : List Instr
  deriving DecidableEq, Repr

/-- The part right after reset, before reset release: every field at the value its chapter gives, the store never
written (90 bytes of 255, R171), and the input lines inactive (log entry 2). -/
def State.reset : State :=
  { tu := 0
    released := false
    pins := { raw := Inputs.all false, hold := false, strap := false, tach := PerFan.all false,
              limits := PerDamper.all ⟨false, false⟩ }
    store := { bytes := List.replicate Config.recordLength 255, record := none, writing := none }
    view := { entries := [], refused := 0, pendingSweep := false, pendingEmpty := false }
    share := { cls := .idle, demand := 0, pass := none, again := false,
               results := { grant := 0, flag := .nil, rOwn := 0, sOwn := 0, isoRule := false, t := 0 },
               shortFlag := false, requested := false }
    fume := { sampleExpiry := 0, channels := Quad.all FumeChannel.initial, index := 0, cls := .idle }
    monitor := { filtered := Inputs.all false, run := Inputs.all none, latch := Quad.all false,
                 evaluation := false, decl := .clear, confirm := none, cause := none }
    zone := { mode := .hold, contain := [], listen := none, purge := none }
    fans := { units := PerFan.all FanUnit.initial, staging := 0, target := 0, setpoint := 0, starts := [],
              begun := PerFan.all false }
    dampers := PerDamper.all DamperUnit.unfitted
    line := { state := .receiving, rate := .r38400, failures := 0, isolated := false, stuck := false,
              clearRun := 0 }
    rx := { asm := .skipping, buffer := [], mark := .none, fifoA := [], fifoB := [], errors := 0, lost := 0,
            duplicate := false }
    tx := { onLine := none, urgent := none, slot := none, requests := PerFan.all false, claimAttempts := 0,
            statusPending := false, changeMark := false, statusAttempts := 0, heartbeat := none,
            spacing := none, isolatedMark := false, probeOffer := false }
    forces := Forces.clear
    port := { state := .ready, chars := [], lastChar := 0, busy := false, response := [] }
    pending := [] }

end Sys2Proof.Machine
end

