-- ==== Sys2Proof/Machine/Flags.lean ====
section
/-! DEFINITION. What the manual gives as a function of the state: which fans are fitted, available and needed,
Fmax_eff, the outputs, DEGRADED, the pre-alarm hit set, the damper commands, the fault causes, the relays, the
cause code and the value of every point. -/

namespace Sys2Proof.Machine

/-- The record that the blocks work from: the one in force, or what stands for it while it is invalid. -/
def State.cfg (s : State) : Record := s.store.record.getD Record.absent

/-- The record is valid (R172). -/
def State.recordValid (s : State) : Bool := s.store.record.isSome

/-- A fan's record. -/
def State.fan (s : State) (f : Fan) : FanUnit := s.fans.units.get f

/-- A damper's record. -/
def State.damper (s : State) (d : DamperId) : DamperUnit := s.dampers.get d

/-! ### Fans -/

/-- 6.1: with n = 2 both fans are fitted, with n = 1 fan A; while the record is invalid, none (R174). -/
def State.fanFitted (s : State) : Fan → Bool
  | .A => decide (1 ≤ s.cfg.fanCount)
  | .B => decide (2 ≤ s.cfg.fanCount)

/-- R88: a fan is available while it is fitted and not fan FAULTED. -/
def State.available (s : State) (f : Fan) : Bool := s.fanFitted f && decide ((s.fan f).state ≠ .faulted)

/-- R88: n_av. -/
def State.availableCount (s : State) : Nat :=
  (if s.available .A then 1 else 0) + (if s.available .B then 1 else 0)

/-- R88: Fmax_eff, the sum of the ratings of the available fans. -/
def State.fmaxEff (s : State) : Nat := s.availableCount * s.cfg.rating

/-- R89: the duty fan. -/
def State.duty (s : State) : Fan := if s.available .A then .A else .B

/-- R89: whether a fan is needed, from the staging count. -/
def State.needed (s : State) (f : Fan) : Bool :=
  (decide (s.fans.staging = 2) && s.available f) ||
    (decide (s.fans.staging = 1) && s.available f && decide (f = s.duty))

/-- A fan turns in STARTING and RUNNING (R91). -/
def FanState.turns : FanState → Bool
  | .starting => true
  | .running => true
  | _ => false

/-- R92, R95: the fan states in which the Fan Controller commands the extract damper open. -/
def FanState.wantsOpen : FanState → Bool
  | .stopped => false
  | .faulted => false
  | _ => true

/-- Whether a fan is STARTING or RUNNING; its run output (R91). -/
def State.runOutput (s : State) (f : Fan) : Bool := (s.fan f).state.turns

/-- Whether at least one fan is STARTING or RUNNING (R90). -/
def State.anyTurning (s : State) : Bool := s.runOutput .A || s.runOutput .B

/-- R81: the fire profile is in use in CONTAIN, FIRE and PURGE. -/
def Mode.usesFireProfile : Mode → Bool
  | .contain => true
  | .fire => true
  | .purge => true
  | _ => false

/-- R81: the ramp and minimum speed in use. -/
def State.profile (s : State) : Profile := if s.zone.mode.usesFireProfile then s.cfg.fire else s.cfg.normal

/-- R91: the speed output of a fan. -/
def State.speedOutput (s : State) (f : Fan) : Nat :=
  if s.runOutput f then
    if s.availableCount = 2 ∧ s.runOutput f.other = false then
      max s.profile.minSpeed (min 1000 (2 * s.fans.setpoint))
    else max s.profile.minSpeed s.fans.setpoint
  else 0

/-- R106: any fan is fan FAULTED; the own FAN_FAULT flag and the FAN FAULT cause. -/
def State.fanFault (s : State) : Bool :=
  decide ((s.fan .A).state = .faulted) || decide ((s.fan .B).state = .faulted)

/-! ### Fire points -/

/-- R52: physically active: the type is not UNUSED and the filtered value is active. -/
def State.physicallyActive (s : State) (p : Ix4) : Bool :=
  decide (s.cfg.types.get p ≠ .unused) && s.monitor.filtered.get (.point p)

/-- R64: any point is physically active. -/
def State.anyPhysicallyActive (s : State) : Bool := Ix4.all.any s.physicallyActive

/-- R52: the points of a type whose filtered value is active. -/
def State.activeOfType (s : State) (t : PointType) : List Ix4 :=
  Ix4.all.filter fun p => decide (s.cfg.types.get p = t) && s.monitor.filtered.get (.point p)

/-- R52: the smoke count. -/
def State.smokeCount (s : State) : Nat := (s.activeOfType .smoke).length

/-- Whether the latch of a point of a type is set. -/
def State.latchedOfType (s : State) (t : PointType) : Bool :=
  Ix4.all.any fun p => decide (s.cfg.types.get p = t) && s.monitor.latch.get p

/-! ### The Peer View -/

/-- An entry with a hit other than NONE (R2). -/
def PeerEntry.isNeighbour (e : PeerEntry) : Bool := e.hit.isSome

/-- R15: a neighbour entry is STALE or LOST. -/
def State.degraded (s : State) : Bool :=
  s.view.entries.any fun e => e.isNeighbour && decide (e.fresh ≠ .fresh)

/-- R18: whether a filter index is in the pre-alarm hit set. The Damper Controller's pre-alarm closures are a copy
of it (R83). -/
def State.preAlarmHit (s : State) (h : FilterIx) : Bool :=
  s.view.entries.any fun e => decide (e.hit = some h) && e.flags.preAlarm

/-- R7: the view is frozen from the start of a pass to its completion. -/
def State.frozen (s : State) : Bool := s.share.pass.isSome

/-! ### Dampers -/

/-- R82: the zone transfer command is open. Section 11.5 shows TD0's owner command as closed on entry to LISTEN; the model
follows the table of R82 there too (log entry 29). -/
def State.transferOpen (s : State) : Bool :=
  match s.zone.mode with
  | .hold => false
  | .contain => false
  | .fire => false
  | _ => decide (s.monitor.decl ≠ .preAlarm)

/-- R83: the transfer damper faces a filter index of the pre-alarm closures. -/
def State.facingClosed (s : State) (k : Ix4) : Bool :=
  match s.cfg.facing.get k with
  | none => false
  | some h => s.preAlarmHit h

/-- R109, R92, R83: the owner command of a damper, true for open. -/
def State.ownerCommand (s : State) : DamperId → Bool
  | .ed f => (s.fan f).state.wantsOpen
  | .td k => (s.damper (.td k)).fitted && s.transferOpen && !s.facingClosed k

/-- R109: the effective command of a damper, true for open; the level of its command output. -/
def State.effectiveCommand (s : State) (d : DamperId) : Bool :=
  if (s.forces.dampers.get d).flag then (s.forces.dampers.get d).value else s.ownerCommand d

/-- R115: any fitted damper is STUCK. -/
def State.damperFault (s : State) : Bool :=
  DamperId.all.any fun d => (s.damper d).fitted && decide ((s.damper d).state = .stuck)

/-! ### Faults, relays and the cause code -/

/-- R49: the channel-faulted flag of a channel. -/
def State.channelFaulted (s : State) (c : Ix4) : Bool :=
  s.cfg.enables.get c && decide ((s.fume.channels.get c).health = .faulted)

/-- R49: the SENSOR FAULT cause. -/
def State.sensorFault (s : State) : Bool := Ix4.all.any s.channelFaulted

/-- R85: some fault cause stands. -/
def State.faultCause (s : State) : Bool :=
  s.line.isolated || s.fanFault || s.damperFault || s.sensorFault || s.rx.duplicate || !s.recordValid

/-- R84: the FIRE relay drive. -/
def State.fireRelayDrive (s : State) : Bool := decide (s.zone.mode = .fire)

/-- R85: the FAULT relay drive. -/
def State.faultRelayDrive (s : State) : Bool := decide (s.zone.mode ≠ .hold) && !s.faultCause

/-- R163: an output under its force record. -/
def Force.over (f : Force) (drive : Bool) : Bool := if f.flag then f.value else drive

/-- R175: the cause code. -/
def State.causeCode (s : State) : Nat :=
  if s.zone.mode = .fire then 1
  else if s.zone.mode = .contain then 2
  else if s.monitor.decl = .preAlarm then 3
  else if s.line.isolated then 4
  else if s.degraded then 5
  else if s.fanFault then 6
  else if s.damperFault then 7
  else if s.sensorFault then 8
  else if s.rx.duplicate then 9
  else if s.share.shortFlag then 10
  else if s.zone.mode = .hold ∨ s.zone.mode = .listen then 11
  else 0

/-- R120: the line is open for sending. -/
def State.lineOpen (s : State) : Bool := decide (s.line.state = .idle) && !s.line.stuck

/-! ### Points -/

/-- The damper that a number names (chapter 7). -/
def damperOfNum : Nat → Option DamperId
  | 0 => some (.ed .A)
  | 1 => some (.ed .B)
  | 2 => some (.td .i0)
  | 3 => some (.td .i1)
  | 4 => some (.td .i2)
  | 5 => some (.td .i3)
  | _ => none

/-- The index that a number names. -/
def ix4OfNum : Nat → Option Ix4
  | 0 => some .i0
  | 1 => some .i1
  | 2 => some .i2
  | 3 => some .i3
  | _ => none

/-- R160: the value of a limit point, `n` places after point 16. -/
def State.limitPoint (s : State) (n : Nat) : Bool :=
  match damperOfNum (n / 2) with
  | none => false
  | some d => if n % 2 = 0 then (s.pins.limits.get d).openLimit else (s.pins.limits.get d).closedLimit

/-- R160: the value read at a point address. -/
def State.pointValue (s : State) (a : Nat) : Bool :=
  if a ≤ 3 then
    match ix4OfNum a with
    | some p => s.monitor.filtered.get (.point p)
    | none => false
  else if a = 4 then s.monitor.filtered.key
  else if a = 5 then s.pins.hold
  else if a = 6 then s.pins.strap
  else if a = 8 then s.pins.tach.a
  else if a = 9 then s.pins.tach.b
  else if 16 ≤ a ∧ a ≤ 27 then s.limitPoint (a - 16)
  else if 32 ≤ a ∧ a ≤ 35 then
    match ix4OfNum (a - 32) with
    | some c => s.channelFaulted c
    | none => false
  else if a = 64 then s.runOutput .A
  else if a = 65 then s.runOutput .B
  else if 72 ≤ a ∧ a ≤ 77 then
    match damperOfNum (a - 72) with
    | some d => s.effectiveCommand d
    | none => false
  else if a = 80 then s.forces.fire.over s.fireRelayDrive
  else if a = 81 then s.forces.fault.over s.faultRelayDrive
  else false

end Sys2Proof.Machine
end

