-- ==== Sys2Proof/Machine/Operands.lean ====
section
/-! DEFINITION. The operand forms: the characters of a zone line frame and its check (8.3, 8.5), the layout and
the validity of the commissioning record (12.3), and the judgement and the layout of service requests and
responses (12.2). -/

namespace Sys2Proof.Machine

/-! ### Fields of one, two and four characters, high character first -/

/-- A number as one character. -/
def char1 (n : Nat) : Byte := BitVec.ofNat 8 n

/-- A number as two characters. -/
def char2 (n : Nat) : List Byte := [char1 (n / 256), char1 n]

/-- A TU value as four characters. -/
def char4 (t : Tu) : List Byte :=
  [char1 (t.toNat / 16777216), char1 (t.toNat / 65536), char1 (t.toNat / 256), char1 t.toNat]

/-- Two characters as a 16-bit field. -/
def field16 (hi lo : Byte) : BitVec 16 := hi ++ lo

/-- A flag as a bit of a given weight. -/
def weight (b : Bool) (w : Nat) : Nat := if b then w else 0

/-- Bit `i` of a character. -/
def bitOf (b : Byte) (i : Nat) : Bool := b.getLsbD i

/-! ### The check (R123) -/

/-- The generator without its x¹⁶ term. -/
def crcGenerator : BitVec 16 := 0x1021

/-- R123: one data bit taken into the register. -/
def crcBit (reg : BitVec 16) (bit : Bool) : BitVec 16 :=
  if reg.msb = bit then reg <<< 1 else (reg <<< 1) ^^^ crcGenerator

/-- R123: one character taken into the register, most significant bit first. -/
def crcChar (reg : BitVec 16) (c : Byte) : BitVec 16 :=
  [7, 6, 5, 4, 3, 2, 1, 0].foldl (fun r i => crcBit r (bitOf c i)) reg

/-- R123: the check of a run of characters, from a register of all ones. -/
def crc (chars : List Byte) : BitVec 16 := chars.foldl crcChar 0xFFFF

/-- The check as its two characters. -/
def crcChars (chars : List Byte) : List Byte :=
  [(crc chars).extractLsb' 8 8, (crc chars).extractLsb' 0 8]

/-! ### Frames (R121, R122) -/

/-- The payload of a frame heard, as received. -/
inductive HeardBody where
  | fireAlarm (demand : BitVec 16)
  | fireReset
  | startClaim (fan fire : Byte)
  | zoneStatus (cls : Byte) (demand : BitVec 16) (flags period : Byte)
  deriving DecidableEq, Repr

/-- A valid frame heard. -/
structure Heard where
  origin : Station
  body   : HeardBody
  deriving DecidableEq, Repr

/-- What the checks of R128 say of the characters of a frame. -/
inductive Verdict where
  /-- A check fails: the frame is condemned. -/
  | bad
  /-- No check fails, and the characters are not those of one whole frame. -/
  | unfinished
  | valid (h : Heard)
  deriving DecidableEq, Repr

/-- R121: the payload length of a kind, 0–3. -/
def payloadLength : Nat → Nat
  | 0 => 3
  | 1 => 1
  | 2 => 2
  | _ => 5

/-- R121: the origin of an identifier, its five low bits. -/
def identifierOrigin (id : Byte) : Station := ⟨id.toNat % 32, Nat.mod_lt _ (by decide)⟩

/-- R122: the payload of a kind read as its fields; `none` when its length is not the kind's. -/
def payloadFields (kind : Nat) (payload : List Byte) : Option HeardBody :=
  match kind, payload with
  | 0, [_, hi, lo] => some (.fireAlarm (field16 hi lo))
  | 1, [_] => some .fireReset
  | 2, [fan, fire] => some (.startClaim fan fire)
  | 3, [cls, hi, lo, flags, period] => some (.zoneStatus cls (field16 hi lo) flags period)
  | _, _ => none

/-- R128: the judgement of a frame whose identifier and length have passed, by its check. -/
def judgeCheck (id len : Byte) (rest : List Byte) (n : Nat) : Verdict :=
  if crcChars (id :: len :: rest.take n) = rest.drop n then
    match payloadFields (id.toNat / 32) (rest.take n) with
    | some body => .valid ⟨identifierOrigin id, body⟩
    | none => .bad
  else .bad

/-- R128: the judgement of the characters of a frame, each check where its information is first available. -/
def judgeFrame : List Byte → Verdict
  | [] => .unfinished
  | [id] => if 128 ≤ id.toNat then .bad else .unfinished
  | id :: len :: rest =>
    if 128 ≤ id.toNat then .bad
    else if len.toNat ≠ payloadLength (id.toNat / 32) then .bad
    else if rest.length ≠ payloadLength (id.toNat / 32) + 2 then .unfinished
    else judgeCheck id len rest (payloadLength (id.toNat / 32))

/-- R122: the code of a fire cause. -/
def FireCause.code : FireCause → Nat
  | .heat => 0
  | .manual => 1
  | .panel => 2
  | .smokeTwo => 3
  | .smokeConfirmed => 4

/-- R122: the code of a reset source. -/
def ResetSource.code : ResetSource → Nat
  | .key => 0
  | .service => 1

/-- R122: the code of a fan. -/
def fanCode : Fan → Nat
  | .A => 0
  | .B => 1

/-- R122: the flags character; bits 4–7 are sent 0. -/
def PeerFlags.code (f : PeerFlags) : Nat :=
  weight f.preAlarm 1 + weight f.fanFault 2 + weight f.short 4 + weight f.isolated 8

/-- R142: the flags kept of a flags character, its low four bits. -/
def flagsOf (c : Byte) : PeerFlags :=
  { preAlarm := bitOf c 0, fanFault := bitOf c 1, short := bitOf c 2, isolated := bitOf c 3 }

/-- R121: the kind of a content. -/
def Content.kind : Content → Nat
  | .urgent (.fireAlarm _ _) => 0
  | .urgent (.fireReset _) => 1
  | .claim _ _ => 2
  | .status _ _ _ _ => 3

/-- R122: the payload characters of a content. -/
def Content.payload : Content → List Byte
  | .urgent (.fireAlarm cause demand) => char1 cause.code :: char2 demand
  | .urgent (.fireReset source) => [char1 source.code]
  | .claim fan fire => [char1 (fanCode fan), char1 (weight fire 1)]
  | .status cls demand flags period => char1 cls.num :: char2 demand ++ [char1 flags.code, char1 period]

/-- R121: the identifier, the length and the payload of a content of a station. -/
def frameHead (origin : Station) (c : Content) : List Byte :=
  char1 (c.kind * 32 + origin.val) :: char1 (payloadLength c.kind) :: c.payload

/-- R121: the characters of the frame that carries a content of a station. -/
def frameChars (origin : Station) (c : Content) : List Byte :=
  frameHead origin c ++ crcChars (frameHead origin c)

/-! ### The commissioning record (R171, R172) -/

/-- The record byte at an offset. -/
def recByte (b : List Byte) (i : Nat) : Nat := (b.getD i 0).toNat

/-- The two-byte field at an offset, high byte first. -/
def recWord (b : List Byte) (i : Nat) : Nat := recByte b i * 256 + recByte b (i + 1)

/-- The sum of characters modulo 256. -/
def sumChars (cs : List Byte) : Byte := cs.foldl (· + ·) 0

/-- The checksum character that makes a run of characters sum to 0 modulo 256. -/
def checksumFor (cs : List Byte) : Byte := 0 - sumChars cs

/-- R141: a filter matches an origin. -/
def Filter.matches (f : Filter) (origin : Station) : Bool :=
  decide ((BitVec.ofNat 8 origin.val ^^^ f.value) &&& f.mask &&& 31 = 0)

/-- R141: the index of the lowest counted filter that an origin matches, or NONE. -/
def hitOf (fs : List Filter) (origin : Station) : Option FilterIx :=
  (List.finRange 6).find? fun i =>
    match fs[i.val]? with
    | some f => f.matches origin
    | none => false

/-- R171: the counted filters. -/
def recFilters (b : List Byte) : List Filter :=
  (List.range (recByte b 17)).map fun i => ⟨b.getD (18 + 2 * i) 0, b.getD (19 + 2 * i) 0⟩

/-- R172: the distinct stations that the counted filters match, the own number apart. -/
def matchedStations (fs : List Filter) (own : Station) : List Station :=
  (List.finRange 32).filter fun o => decide (o ≠ own) && fs.any (·.matches o)

/-- R172: a field lies in its range. -/
def inRange (n lo hi : Nat) : Bool := decide (lo ≤ n) && decide (n ≤ hi)

/-- R172: the scalar fields lie in their ranges. -/
def rangesOk (b : List Byte) : Bool :=
  inRange (recByte b 0) 0 31 && inRange (recWord b 1) 10 20000 && inRange (recByte b 3) 1 2 &&
  inRange (recWord b 4) 10 1000 && inRange (recByte b 6) 1 16 && inRange (recWord b 7) 20 300 &&
  inRange (recWord b 9) 0 600 && inRange (recByte b 11) 0 100 && inRange (recWord b 12) 1 60000 &&
  inRange (recWord b 14) 1 1000 && inRange (recByte b 16) 5 50 && inRange (recByte b 17) 0 6 &&
  inRange (recWord b 34) 0 300 && inRange (recWord b 36) 0 1800 &&
  [39, 41, 43, 45].all (fun i => inRange (recWord b i) 250 4000) &&
  [47, 51, 55].all (fun i => inRange (recWord b i) 1 1000) &&
  [49, 53, 57].all (fun i => inRange (recWord b i) 0 999) &&
  inRange (recWord b 59) 0 1000 && inRange (recWord b 61) 0 1000 && inRange (recByte b 63) 10 120 &&
  [69, 71, 73, 75, 79, 81, 83, 87].all (fun i => inRange (recWord b i) 0 1000) &&
  [77, 85].all (fun i => inRange (recWord b i) 10 1000)

/-- R172: type codes are 0–4 and the reserved bits are 0. -/
def codesOk (b : List Byte) : Bool :=
  [30, 31, 32, 33].all (fun i => inRange (recByte b i) 0 4) && inRange (recByte b 38) 0 15 &&
  inRange (recByte b 64) 0 15

/-- R172: each counted filter has its value and its mask in 0–31. -/
def filtersOk (b : List Byte) : Bool :=
  (recFilters b).all fun f => decide (f.value.toNat ≤ 31) && decide (f.mask.toNat ≤ 31)

/-- R172: the relations between fields. -/
def relationsOk (b : List Byte) : Bool :=
  decide (recByte b 3 * recWord b 4 ≤ recWord b 1) &&
  decide (recWord b 69 ≤ recWord b 71) && decide (recWord b 71 ≤ recWord b 73) &&
  decide (recWord b 73 ≤ recWord b 75) &&
  decide (recWord b 49 < recWord b 47) && decide (recWord b 53 < recWord b 51) &&
  decide (recWord b 57 < recWord b 55) &&
  decide (recWord b 47 < recWord b 51) && decide (recWord b 51 < recWord b 55) &&
  decide (recWord b 49 < recWord b 53) && decide (recWord b 53 < recWord b 57) &&
  decide (recWord b 77 % 10 = 0) && decide (recWord b 85 % 10 = 0)

/-- R172: the facing index of each fitted transfer damper is NONE or below the filter count. -/
def facingOk (b : List Byte) : Bool :=
  [0, 1, 2, 3].all fun k =>
    !(b.getD 64 0).getLsbD k || decide (recByte b (65 + k) = 255) || decide (recByte b (65 + k) < recByte b 17)

/-- The station number of a record. -/
def recStation (b : List Byte) : Station := ⟨recByte b 0 % 32, Nat.mod_lt _ (by decide)⟩

/-- R172: a record is valid. -/
def recordOk (b : List Byte) : Bool :=
  decide (b.length = Config.recordLength) && decide (sumChars b = 0) && rangesOk b && codesOk b &&
  filtersOk b && relationsOk b && facingOk b &&
  decide ((matchedStations (recFilters b) (recStation b)).length ≤ Config.neighbourMax)

/-- R171: a point type by its code. -/
def typeOf : Nat → PointType
  | 1 => .smoke
  | 2 => .heat
  | 3 => .manual
  | 4 => .panel
  | _ => .unused

/-- R171: a facing index by its code; 255 is NONE. -/
def facingOf (n : Nat) : Option FilterIx := if h : n < 6 then some ⟨n, h⟩ else none

/-- One value for each index from its number. -/
def quadOf {α : Type} (g : Nat → α) : Quad α := ⟨g 0, g 1, g 2, g 3⟩

/-- R171: the fields of the record bytes. -/
def recordFields (b : List Byte) : Record :=
  { station := recStation b, capacity := recWord b 1, fanCount := recByte b 3, rating := recWord b 4,
    startLimit := recByte b 6, startWindow := recWord b 7, runDown := recWord b 9,
    provingWindow := recByte b 11, pulsesFull := recWord b 12, provingRatio := recWord b 14,
    period := recByte b 16, filters := recFilters b,
    types := quadOf fun i => typeOf (recByte b (30 + i)),
    confirmTime := recWord b 34, purgeTime := recWord b 36,
    enables := quadOf fun i => (b.getD 38 0).getLsbD i,
    gains := quadOf fun i => recWord b (39 + 2 * i),
    fume1 := ⟨recWord b 47, recWord b 49⟩, fume2 := ⟨recWord b 51, recWord b 53⟩,
    fume3 := ⟨recWord b 55, recWord b 57⟩, fallback := recWord b 59, isolatedShare := recWord b 61,
    travelTimeout := recByte b 63,
    fitted := quadOf fun i => (b.getD 64 0).getLsbD i,
    facing := quadOf fun i => facingOf (recByte b (65 + i)),
    idleLevel := recWord b 69, fume1Level := recWord b 71, fume2Level := recWord b 73,
    fume3Level := recWord b 75, normal := ⟨recWord b 77, recWord b 79⟩,
    fireLevel := recWord b 81, containLevel := recWord b 83, fire := ⟨recWord b 85, recWord b 87⟩ }

/-- R174: the stored bytes judged: the record when they are valid. -/
def judgeRecord (b : List Byte) : Option Record := if recordOk b then some (recordFields b) else none

/-! ### Service requests and responses (R167) -/

/-- The status of a response. -/
inductive Status where
  | ok
  | badCheck
  | badLength
  | unknown
  | badArg
  | refusedMode
  | refusedActive
  | refusedPoint
  deriving DecidableEq, Repr

/-- R167: the number of a status. -/
def Status.code : Status → Nat
  | .ok => 0
  | .badCheck => 1
  | .badLength => 2
  | .unknown => 3
  | .badArg => 4
  | .refusedMode => 5
  | .refusedActive => 6
  | .refusedPoint => 7

/-- R168: the command codes of the command table. -/
def commandCodes : List Byte := [0x01, 0x10, 0x11, 0x12, 0x20, 0x21, 0x22, 0x30, 0x31, 0x40, 0x41]

/-- R167, step 1: the bytes of a request sum to 0 modulo 256. -/
def requestSumOk (code : Byte) (req : Request) : Bool :=
  decide (sumChars (code :: char1 req.data.length :: req.data ++ [req.check]) = 0)

/-- R167: the characters of a response before its checksum. -/
def responseHead (code : Byte) (st : Status) (data : List Byte) : List Byte :=
  code :: char1 st.code :: char1 data.length :: data

/-- R167: the characters of a response. -/
def responseChars (code : Byte) (st : Status) (data : List Byte) : List Byte :=
  responseHead code st data ++ [checksumFor (responseHead code st data)]

/-- The data byte of a request at an offset. -/
def reqArg (req : Request) (i : Nat) : Byte := req.data.getD i 0

/-- The checksum that makes a request with some data sum to 0 (R167). -/
def sealRequest (code : Byte) (data : List Byte) : Request :=
  ⟨data, checksumFor (code :: char1 data.length :: data)⟩

end Sys2Proof.Machine
end

