-- ==== Sys2Proof/Machine/Ops.lean ====
section
/-! DEFINITION. The operations that the blocks share: the passing of time, pass requests, change notices, the demand
stage, the slots of the Transmit Unit, the Start List and own claims, the fan state machine, the damper state
machine, and the change of mode. -/

namespace Sys2Proof.Machine

/-- What a meaning answers. -/
abbrev Answer := Host.Outcome State Fault Refusal

/-! ### Time (R13, R104; log entries 1 and 6) -/

/-- The multiples of 1000 that the TU counter reaches as `dt` passes from `t`. -/
def stepsCrossed (t dt : Tu) : Nat :=
  if t.toNat + dt.toNat < 2 ^ 32 then (t.toNat + dt.toNat) / Config.stepTu - t.toNat / Config.stepTu
  else (2 ^ 32 - 1) / Config.stepTu - t.toNat / Config.stepTu + 1
    + (t.toNat + dt.toNat - 2 ^ 32) / Config.stepTu

/-- R104: a proving window counter counts down by one at each 100 ms step, to zero, where the window ends. -/
def FanUnit.countDown (u : FanUnit) (n : Nat) : FanUnit := { u with window := u.window.map (· - n) }

/-- Time passes: the TU counter advances, and while the proving window is above 0 the proving counters count. Before
reset release nothing moves. -/
def State.elapse (s : State) (dt : Tu) : State :=
  if s.released then
    { s with
      tu := s.tu + dt
      fans := if s.cfg.provingWindow = 0 then s.fans else
        { s.fans with units := { a := s.fans.units.a.countDown (stepsCrossed s.tu dt),
                                 b := s.fans.units.b.countDown (stepsCrossed s.tu dt) } } }
  else s

/-- The TU counter has reached a moment: the moment is not ahead of it, within half the counter's span. -/
def reached (now moment : Tu) : Bool := decide (tuAge now moment < 2 ^ 31)

/-- A timer that runs has reached its expiry. -/
def due (now : Tu) : Option Tu → Bool
  | none => false
  | some e => reached now e

/-- The TU counter stands at a 100 ms step of the Time Base (R13, R90). -/
def State.atStep (s : State) : Bool := decide (s.tu.toNat % Config.stepTu = 0)

/-- A command as an event of the released part: `dt` passes and then the effect comes about. Before reset release
the part takes no event. -/
def live (dt : Tu) (s : State) (f : State → State) : Answer :=
  if s.released then .next (f (s.elapse dt)) else .next s

/-- A counter that saturates at 65 535. -/
def bump (n : Nat) : Nat := if n < Config.counterMax then n + 1 else Config.counterMax

/-! ### Single-field updates -/

/-- `s` with a fan's record replaced. -/
def State.setFan (s : State) (f : Fan) (u : FanUnit) : State :=
  { s with fans := { s.fans with units := s.fans.units.set f u } }

/-- `s` with a damper's record replaced. -/
def State.setDamper (s : State) (d : DamperId) (u : DamperUnit) : State :=
  { s with dampers := s.dampers.set d u }

/-! ### Passes and notices -/

/-- R25: a pass is requested; the request is served at the end of the event (log entry 7). -/
def State.requestPass (s : State) : State := { s with share := { s.share with requested := true } }

/-- R27: a pass starts: the inputs are sampled, and the view is frozen while the pass is in flight. -/
def State.startPass (s : State) : State :=
  { s with share := { s.share with
      again := false
      requested := false
      pass := some { cls := s.share.cls, demand := s.share.demand, fmax := s.fmaxEff,
                     isolated := s.line.isolated, capacity := s.cfg.capacity,
                     share := s.cfg.isolatedShare, started := s.tu } } }

/-- R26: the requests of an event are served together at its end. -/
def State.serve (s : State) : State :=
  if s.share.requested then
    if s.share.pass.isNone && s.recordValid then s.startPass
    else { s with share := { s.share with again := true, requested := false } }
  else s

/-- R155, R157: the Transmit Unit is told of a change of the own record. -/
def State.notice (s : State) : State :=
  match s.zone.mode with
  | .hold => s
  | .listen => s
  | _ => { s with tx := { s.tx with changeMark := true,
                                    statusPending := s.tx.statusPending || s.tx.spacing.isNone } }

/-! ### The demand stage (R22 to R24) -/

/-- The demand class of a fume class. -/
def FumeClass.toDemand : FumeClass → DemandClass
  | .idle => .idle
  | .fume1 => .fume1
  | .fume2 => .fume2
  | .fume3 => .fume3

/-- R22: the own class. -/
def ownClassFor (m : Mode) (f : FumeClass) (d : Declaration) : DemandClass :=
  match m with
  | .hold => .idle
  | .listen => .idle
  | .normal => if d = .preAlarm then .fume3 else f.toDemand
  | .contain => .contain
  | .fire => .fire
  | .purge => .fume3

/-- R23: the normal profile's level for an own class. -/
def Record.normalLevel (r : Record) : DemandClass → Nat
  | .idle => r.idleLevel
  | .fume1 => r.fume1Level
  | .fume2 => r.fume2Level
  | .fume3 => r.fume3Level
  | .contain => 0
  | .fire => 0

/-- R23: the own demand. -/
def ownDemandFor (m : Mode) (c : DemandClass) (r : Record) (fmax : Nat) : Nat :=
  match m with
  | .hold => 0
  | .listen => 0
  | .normal => fmax * r.normalLevel c / 1000
  | .contain => fmax * r.containLevel / 1000
  | .fire => fmax * r.fireLevel / 1000
  | .purge => fmax

/-- R22: the own class that the present inputs give. -/
def State.classNow (s : State) : DemandClass := ownClassFor s.zone.mode s.fume.cls s.monitor.decl

/-- R23: the own demand that the present inputs give. -/
def State.demandNow (s : State) : Nat := ownDemandFor s.zone.mode s.classNow s.cfg s.fmaxEff

/-- R24: the demand stage recomputes the own class and D; a change of either requests a pass and is told to the
Transmit Unit. -/
def State.recompute (s : State) : State :=
  if s.classNow = s.share.cls ∧ s.demandNow = s.share.demand then s
  else State.notice (State.requestPass
    { s with share := { s.share with cls := s.classNow, demand := s.demandNow } })

/-! ### The CLAIM slot (R151) -/

/-- R151: the slot is empty. Its attempt count is then 0, where R151 gives the count at reset and at the entry of a claim
alone (the model's choice, log entry 27). -/
def Transmit.emptySlot (tx : Transmit) : Transmit := { tx with slot := none, claimAttempts := 0 }

/-- R151: a claim has left the slot; a waiting request enters it, or the slot is empty (log entry 27). -/
def Transmit.freeSlot (tx : Transmit) : Transmit :=
  if tx.requests.a then
    { tx with slot := some ⟨.A, .waiting⟩, claimAttempts := 0, requests := { tx.requests with a := false } }
  else if tx.requests.b then
    { tx with slot := some ⟨.B, .waiting⟩, claimAttempts := 0, requests := { tx.requests with b := false } }
  else tx.emptySlot

/-- R151: a claim handed over enters the slot, or its fan's request while the slot is taken. R151 speaks of a slot that
holds the other fan's claim; where it holds the own ABANDONED claim of a fan that CLEAR FAULTS returned, the new claim
waits in the own request too (the model's choice, log entry 28). -/
def Transmit.takeClaim (tx : Transmit) (f : Fan) : Transmit :=
  match tx.slot with
  | none => { tx with slot := some ⟨f, .waiting⟩, claimAttempts := 0 }
  | some _ => { tx with requests := tx.requests.set f true }

/-- R151: an aborted WAITING claim is withdrawn from the slot or from its request. -/
def Transmit.withdraw (tx : Transmit) (f : Fan) : Transmit :=
  if tx.slot = some ⟨f, .waiting⟩ then tx.freeSlot else { tx with requests := tx.requests.set f false }

/-- R152: the claim of a fan that is on the line is marked ABANDONED. -/
def Transmit.abandon (tx : Transmit) (f : Fan) : Transmit :=
  if tx.slot = some ⟨f, .onLine⟩ then { tx with slot := some ⟨f, .abandoned⟩ } else tx

/-! ### Fan states -/

/-- R90: s is held at 0 while no fan is STARTING or RUNNING. -/
def State.holdSetpoint (s : State) : State :=
  if s.anyTurning then s else { s with fans := { s.fans with setpoint := 0 } }

/-- R104, R105: a fan's record as it passes to a state. The judge mark and the low-window count stand in RUNNING alone. -/
def FanUnit.enter (u : FanUnit) (st : FanState) : FanUnit :=
  { u with state := st, judge := u.judge && decide (st = .running), low := if st = .running then u.low else 0 }

/-- R90 to R96: a fan passes to a state, and s follows. -/
def State.moveFan (s : State) (f : Fan) (st : FanState) : State :=
  (s.setFan f ((s.fan f).enter st)).holdSetpoint

/-- A fan's claim state and backoff timer are replaced. -/
def State.setClaim (s : State) (f : Fan) (c : ClaimState) (backoff : Option Tu) : State :=
  s.setFan f { s.fan f with claim := c, backoff := backoff }

/-- R102: the backoff of an own claim. -/
def State.backoffTime (s : State) : Nat := Config.backoffTu * (1 + s.cfg.station.val % 4)

/-- R102: a claim enters BACKOFF and its timer is started. -/
def State.enterBackoff (s : State) (f : Fan) : State :=
  s.setClaim f .backoff (some (tuAfter s.tu s.backoffTime))

/-! ### The Start List (R98 to R100) -/

/-- R100: the removal of an own entry is handed to its fan, which ends its start window. -/
def State.handRemoval (s : State) (e : ClaimEntry) : State :=
  if e.origin = s.cfg.station ∧ (s.fan e.fan).state = .starting then s.moveFan e.fan .running else s

/-- Two entries of one origin and fan. -/
def ClaimEntry.sameClaim (e e' : ClaimEntry) : Bool := decide (e.origin = e'.origin) && decide (e.fan = e'.fan)

/-- R99, step 1: an entry with the same origin and fan is removed. -/
def State.dropSame (s : State) (e : ClaimEntry) : State :=
  if s.fans.starts.any e.sameClaim then
    State.handRemoval
      { s with fans := { s.fans with starts := s.fans.starts.filter fun x => !e.sameClaim x } } e
  else s

/-- R99, steps 2 and 3: whether a claim is admitted to the list as it stands. -/
def State.admits (s : State) (e : ClaimEntry) : Bool :=
  e.fire || decide (s.fans.starts.length < s.cfg.startLimit)

/-- R99, step 4: an admitted claim is appended; a full list drops its head first. -/
def State.appendClaim (s : State) (e : ClaimEntry) : State :=
  match s.fans.starts with
  | [] => { s with fans := { s.fans with starts := [e] } }
  | h :: t =>
    if t.length + 1 < Config.startListCapacity then { s with fans := { s.fans with starts := h :: t ++ [e] } }
    else State.handRemoval { s with fans := { s.fans with starts := t ++ [e] } } h

/-- R99: a claim is taken into the Start List. -/
def State.takeEntry (s : State) (e : ClaimEntry) : State :=
  if (s.dropSame e).admits e then (s.dropSame e).appendClaim e else s.dropSame e

/-- R99: whether the claim is admitted. -/
def State.entryAdmitted (s : State) (e : ClaimEntry) : Bool := (s.dropSame e).admits e

/-- R98: the entry of a claim that completes, or is decided, now. -/
def State.entryNow (s : State) (origin : Station) (f : Fan) (fire : Bool) : ClaimEntry :=
  { origin := origin, fan := f, fire := fire, arrival := s.tu,
    expiry := tuAfter s.tu (s.cfg.startWindow * Config.stepTu) }

/-! ### Own claims (R101 to R103) -/

/-- R93: an admitted own claim takes its fan from WAIT_SLOT to STARTING. A fan that has left WAIT_SLOT is not
started. -/
def State.startFan (s : State) (f : Fan) : State :=
  if (s.fan f).state = .waitSlot then (s.setClaim f .none none).moveFan f .starting else s.setClaim f .none none

/-- The outcome of an own claim, taken into the Start List by R99: STARTING when admitted, BACKOFF when denied. -/
def State.decideClaim (s : State) (f : Fan) (e : ClaimEntry) : State :=
  if s.entryAdmitted e then (s.takeEntry e).startFan f else (s.takeEntry e).enterBackoff f

/-- R103: a claim is decided locally. -/
def State.localClaim (s : State) (f : Fan) : State :=
  s.decideClaim f (s.entryNow s.cfg.station f (decide (s.zone.mode = .fire)))

/-- R101, R103: a started claim goes to the Transmit Unit, or while ISOLATED is set is decided at once. -/
def State.giveClaim (s : State) (f : Fan) : State :=
  if s.line.isolated then s.localClaim f else { s with tx := s.tx.takeClaim f }

/-- R101, R103: the claim of one fan alone is started in an event, and is placed at once. -/
def State.handClaim (s : State) (f : Fan) : State := (s.setClaim f .waiting none).giveClaim f

/-- R101, R102: a claim is started in an event in which the other fan may start one too; it is placed as the event ends,
in the fans' order and before its fan's damper answers. While the fan's former claim is ABANDONED it waits. -/
def State.startClaim (s : State) (f : Fan) : State :=
  if (s.fan f).claim = .abandoned then s
  else
    let s1 := s.setClaim f .waiting none
    { s1 with fans := { s1.fans with begun := s1.fans.begun.set f true } }

/-- The claim that a fan started in the event, unless it was aborted since, is placed. -/
def State.placeClaim (s : State) (f : Fan) : State :=
  if s.fans.begun.get f then
    let s1 := { s with fans := { s.fans with begun := s.fans.begun.set f false } }
    if (s1.fan f).claim = .waiting then s1.giveClaim f else s1
  else s

/-- R103, R151: the claims started so far in the event are placed, fan A's first: into the Start List while ISOLATED is
set, and otherwise into the CLAIM slot and the requests. -/
def State.placeClaims (s : State) : State := (s.placeClaim .A).placeClaim .B

/-- R102: a fan's claim is aborted. -/
def State.abortClaim (s : State) (f : Fan) : State :=
  match (s.fan f).claim with
  | .waiting =>
    let s1 := s.setClaim f .none none
    { s1 with tx := s1.tx.withdraw f }
  | .sending =>
    let s1 := s.setClaim f .abandoned none
    { s1 with tx := s1.tx.abandon f }
  | .backoff => s.setClaim f .none none
  | .abandoned => s
  | .none => s

/-! ### The fan state machine (R92 to R97) -/

/-- R92: a STOPPED fan that is needed leaves STOPPED by its extract damper's state. -/
def State.leaveStopped (s : State) (f : Fan) : State :=
  match (s.damper (.ed f)).state with
  | .opened => (s.moveFan f .waitSlot).startClaim f
  | .stuck => s
  | _ => s.moveFan f .waitDamper

/-- R95: the run-down ends: STOPPED, and on at once when the fan is needed. -/
def State.endRundown (s : State) (f : Fan) : State :=
  let s1 := (s.setFan f { s.fan f with rundown := none }).moveFan f .stopped
  if s1.needed f then s1.leaveStopped f else s1

/-- R94, R95: a fan enters RUNDOWN; with a run-down of 0 the expiry falls in the same event. -/
def State.enterRundown (s : State) (f : Fan) : State :=
  let s1 := s.moveFan f .rundown
  let s2 := s1.setFan f { s1.fan f with
    rundown := some (tuAfter s1.tu (s1.cfg.runDown * Config.stepTu)) }
  if s2.cfg.runDown = 0 then s2.endRundown f else s2

/-- R92 to R95: a fan answers its need as the staging count gives it. -/
def State.answerNeed (s : State) (f : Fan) : State :=
  if s.needed f then
    if (s.fan f).state = .stopped then s.leaveStopped f else s
  else
    match (s.fan f).state with
    | .waitDamper => s.moveFan f .stopped
    | .waitSlot => (s.abortClaim f).moveFan f .stopped
    | .starting => s.enterRundown f
    | .running => s.enterRundown f
    | _ => s

/-- R89: the staging count for a number of available fans, a target and the count before. -/
def stagingFor (nav target before : Nat) : Nat :=
  match nav with
  | 0 => 0
  | 1 => if 0 < target then 1 else 0
  | _ =>
    if target = 0 then 0
    else if 500 ≤ target then 2
    else if 401 ≤ target ∧ before = 2 then 2
    else 1

/-- R89: staging is judged and each fan is handed its need, fan A first (log entry 10). -/
def State.stage (s : State) : State :=
  let s1 := { s with fans := { s.fans with
    staging := stagingFor s.availableCount s.fans.target s.fans.staging } }
  (s1.answerNeed .A).answerNeed .B

/-- R88, R24: Fmax_eff has changed: D is recomputed and a pass is requested. -/
def State.fmaxChanged (s : State) : State := s.requestPass.recompute

/-- R106: FAN_FAULT is told to the Transmit Unit when it differs from what it was. -/
def State.noticeFanFault (s : State) (before : Bool) : State := if s.fanFault = before then s else s.notice

/-- R96: a fan becomes fan FAULTED. -/
def State.faultFan (s : State) (f : Fan) (c : FanFault) : State :=
  if (s.fan f).state = .faulted then s
  else
    let s1 := s.abortClaim f
    let s2 := s1.setFan f { s1.fan f with cause := some c, rundown := none, backoff := none }
    ((s2.moveFan f .faulted).fmaxChanged.noticeFanFault s.fanFault).stage

/-- R115: an extract damper reaches OPEN. -/
def State.fanReachesOpen (s : State) (f : Fan) : State :=
  if (s.fan f).state = .waitDamper then (s.moveFan f .waitSlot).startClaim f else s

/-- R115: an extract damper leaves OPEN other than to STUCK. -/
def State.fanLeavesOpen (s : State) (f : Fan) : State :=
  match (s.fan f).state with
  | .starting => s.enterRundown f
  | .running => s.enterRundown f
  | .waitSlot => (s.abortClaim f).moveFan f .waitDamper
  | _ => s

/-! ### The damper state machine (R109 to R114) -/

/-- R115: a change of an extract damper's state is handed to its fan. -/
def State.handDamper (s : State) (d : DamperId) (before after : DamperState) : State :=
  match d with
  | .td _ => s
  | .ed f =>
    if before = after then s
    else if after = .stuck then s.faultFan f .damper
    else if after = .opened then s.fanReachesOpen f
    else if before = .opened then s.fanLeavesOpen f
    else s

/-- A damper takes a new record, and its fan is handed the change of state in the same event. -/
def State.moveDamper (s : State) (d : DamperId) (u : DamperUnit) : State :=
  (s.setDamper d u).handDamper d (s.damper d).state u.state

/-- R112: a damper passes into travel, open or closed as `toOpen` says, with its travel timer started; when its target
limit is already active and the other is not, it passes on to rest in the same event. -/
def DamperUnit.travelling (u : DamperUnit) (toOpen : Bool) (l : Limits) (expiry : Tu) : DamperUnit :=
  if toOpen then
    if l.openLimit && !l.closedLimit then { u with state := .opened, travel := none, loss := none, reason := none }
    else { u with state := .opening, travel := some expiry, loss := none, reason := none }
  else
    if l.closedLimit && !l.openLimit then { u with state := .closed, travel := none, loss := none, reason := none }
    else { u with state := .closing, travel := some expiry, loss := none, reason := none }

/-- A damper that is STUCK for a reason (R113). -/
def DamperUnit.stuckFor (u : DamperUnit) (r : StuckReason) : DamperUnit :=
  { u with state := .stuck, travel := none, loss := none, reason := some r }

/-- R112: the expiry of a travel timer started now. -/
def State.travelExpiry (s : State) : Tu := tuAfter s.tu (s.cfg.travelTimeout * Config.secondTu)

/-- R110, first part: the state that a damper's limits give it. -/
def DamperUnit.settled (u : DamperUnit) (toOpen : Bool) (l : Limits) (expiry : Tu) : DamperUnit :=
  match l.openLimit, l.closedLimit with
  | true, true => u.stuckFor .bothLimits
  | true, false => { u with state := .opened, travel := none, loss := none, reason := none }
  | false, true => { u with state := .closed, travel := none, loss := none, reason := none }
  | false, false => u.travelling toOpen l expiry

/-- R111, R112: a fitted damper is moved by an effective command that its state does not already follow. -/
def State.driveDamper (s : State) (d : DamperId) : State :=
  if (s.damper d).fitted then
    let go : State :=
      s.moveDamper d ((s.damper d).travelling (s.effectiveCommand d) (s.pins.limits.get d) s.travelExpiry)
    match (s.damper d).state with
    | .opened => if s.effectiveCommand d then s else go
    | .opening => if s.effectiveCommand d then s else go
    | .closed => if s.effectiveCommand d then go else s
    | .closing => if s.effectiveCommand d then go else s
    | .stuck => s
  else s

/-- R103, R109, R114: the extract dampers answer their effective commands, ED-A first. A claim that a fan has started is
placed before its damper can leave OPEN, and a claim that ED-A's answer starts for fan A before one of fan B (log entry
10). -/
def State.driveExtracts (s : State) : State :=
  ((s.placeClaim .A).driveDamper (.ed .A)).placeClaims.driveDamper (.ed .B)

/-- R109: every damper answers its effective command, in the order of their numbers. -/
def State.driveDampers (s : State) : State := Ix4.all.foldl (fun t k => t.driveDamper (.td k)) s.driveExtracts

/-- R110, first part, for one damper. -/
def State.settleByLimits (s : State) (d : DamperId) : State :=
  s.moveDamper d ((s.damper d).settled (s.effectiveCommand d) (s.pins.limits.get d) s.travelExpiry)

/-- R110: a fitted damper is settled and the effective command is then applied to it. -/
def State.settleDamper (s : State) (d : DamperId) : State := (s.settleByLimits d).driveDamper d

/-- The end of an event: the dampers answer their commands, the claims started in it are placed, the last of them after the
dampers' answers, and its pass requests are served (log entries 7, 9 and 10). A damper answers the command that the whole
event leaves: two opposite changes of it inside the event move nothing (the model's choice, log entry 32). -/
def State.finish (s : State) : State := s.driveDampers.placeClaims.serve

/-! ### The URGENT slot (R149) -/

/-- R149: a fire frame is queued; it replaces one that has not reached the line. -/
def State.queueUrgent (s : State) (u : Urgent) : State := { s with tx := { s.tx with urgent := some u } }

/-! ### The change of mode (R71) -/

/-- R73: the listen timer on entry to a mode. -/
def State.listenTimerFor (s : State) (m : Mode) : Option Tu :=
  if m = .listen then some (tuAfter s.tu (2 * s.cfg.period * Config.stepTu)) else none

/-- R76: the purge timer on entry to a mode. -/
def State.purgeTimerFor (s : State) (m : Mode) : Option Tu :=
  if m = .purge then some (tuAfter s.tu (s.cfg.purgeTime * Config.secondTu)) else none

/-- R164: the modes whose entry drops every force. -/
def Mode.dropsForces : Mode → Bool
  | .hold => false
  | .normal => false
  | _ => true

/-- R102: on entry to mode FIRE a fan in BACKOFF starts a new claim. -/
def State.reclaim (s : State) (f : Fan) : State :=
  if (s.fan f).claim = .backoff ∧ (s.fan f).state = .waitSlot then (s.setClaim f .none none).startClaim f else s

/-- R154: the heartbeat timer is started and STATUS becomes pending as the mode leaves LISTEN. -/
def State.startHeartbeat (s : State) : State :=
  { s with tx := { s.tx with heartbeat := some (tuAfter s.tu (s.cfg.period * Config.stepTu)),
                             statusPending := true } }

/-- R71: a change of mode, but for the turning on of evaluation, the fire frames and the dampers' answer, which the
event that changes the mode adds. -/
def State.enterMode (s : State) (m : Mode) : State :=
  let s1 := { s with
    zone := { s.zone with mode := m, listen := s.listenTimerFor m, purge := s.purgeTimerFor m }
    forces := if m.dropsForces then Forces.clear else s.forces }
  let s2 := if s.zone.mode = .listen then s1.startHeartbeat else s1
  let s3 := s2.recompute
  if m = .fire then (s3.reclaim .A).reclaim .B else s3

/-! ### Declaration and reset (R57, R62, R65, R74, R75) -/

/-- R62, R74: a declaration with its cause: the state becomes DECLARED, the mode FIRE, and a FIRE_ALARM is queued with
the fire demand. -/
def State.declare (s : State) (c : FireCause) : State :=
  let s1 := { s with monitor := { s.monitor with decl := .declared, cause := some c, confirm := none } }
  let s2 := s1.enterMode .fire
  let s3 := s2.queueUrgent (.fireAlarm c s2.share.demand)
  if s.monitor.decl = .preAlarm then s3.notice else s3

/-- R58, R62: PRE_ALARM is entered and its confirmation timer started. -/
def State.enterPreAlarm (s : State) : State :=
  State.notice (State.recompute
    { s with monitor := { s.monitor with
        decl := .preAlarm, confirm := some (tuAfter s.tu (s.cfg.confirmTime * Config.secondTu)) } })

/-- R59, R62: PRE_ALARM ends in CLEAR. -/
def State.clearPreAlarm (s : State) : State :=
  State.notice (State.recompute { s with monitor := { s.monitor with decl := .clear, confirm := none } })

/-- R75: the mode that an accepted reset leads to. -/
def State.modeAfterReset (s : State) : Mode :=
  if s.zone.contain ≠ [] then .contain else if 0 < s.cfg.purgeTime then .purge else .normal

/-- R65, R75: an accepted reset. -/
def State.acceptReset (s : State) (src : ResetSource) : State :=
  let s1 := { s with monitor := { s.monitor with
    latch := Quad.all false, decl := .clear, cause := none, confirm := none } }
  (s1.enterMode s1.modeAfterReset).queueUrgent (.fireReset src)

/-- R56, step 1: the latches that the start of evaluation sets. -/
def State.latchesAtStart (s : State) : Quad Bool :=
  let on := fun p => s.monitor.filtered.get (.point p) &&
    (decide (s.cfg.types.get p = .heat) || decide (s.cfg.types.get p = .manual))
  ⟨on .i0, on .i1, on .i2, on .i3⟩

/-- R56, R61: the cause that the start of evaluation finds, if it declares. -/
def State.causeAtStart (s : State) : Option FireCause :=
  if s.latchedOfType .heat then some .heat
  else if s.latchedOfType .manual then some .manual
  else if s.activeOfType .panel ≠ [] then some .panel
  else if 2 ≤ s.smokeCount then some .smokeTwo
  else if s.smokeCount = 1 ∧ s.cfg.confirmTime = 0 then some .smokeConfirmed
  else none

/-- R56, steps 2 and 3: the declaration state as the points then stand. -/
def State.judgeAtStart (s : State) : State :=
  match s.causeAtStart with
  | some c => s.declare c
  | none => if s.smokeCount = 1 then s.enterPreAlarm else s

/-- R56: evaluation is turned on, the latches are set and the points are judged as they stand. -/
def State.startEvaluation (s : State) : State :=
  State.judgeAtStart { s with monitor := { s.monitor with evaluation := true, latch := s.latchesAtStart } }

/-- R72: the station leaves HOLD for LISTEN. -/
def State.leaveHold (s : State) : State := (s.enterMode .listen).startEvaluation

/-! ### The contain list (R77 to R79) -/

/-- A station number placed in an ascending list. -/
def insertStation (o : Station) : List Station → List Station
  | [] => [o]
  | x :: xs => if o < x then o :: x :: xs else x :: insertStation o xs

/-- R77, R79: a neighbour fire event. -/
def State.neighbourFire (s : State) (o : Station) : State :=
  if s.zone.mode = .hold ∨ o ∈ s.zone.contain then s
  else
    let s1 := { s with zone := { s.zone with contain := insertStation o s.zone.contain } }
    if s.zone.contain = [] then
      match s.zone.mode with
      | .listen => s1.enterMode .contain
      | .normal => s1.enterMode .contain
      | .purge => s1.enterMode .contain
      | _ => s1
    else s1

/-- R78, R79: a neighbour clear or fire reset event. -/
def State.neighbourGone (s : State) (o : Station) : State :=
  if o ∈ s.zone.contain then
    let s1 := { s with zone := { s.zone with contain := s.zone.contain.filter (· ≠ o) } }
    if s1.zone.contain = [] ∧ s1.zone.mode = .contain then s1.enterMode .normal else s1
  else s

/-! ### Isolation (R132, R133, R103) -/

/-- R103: a claim that was WAITING is decided locally. -/
def State.claimGoesLocal (s : State) (f : Fan) (was : Bool) : State := if was then s.localClaim f else s

/-- R151: every WAITING claim leaves the slot and the requests. -/
def Transmit.withdrawAll (tx : Transmit) : Transmit :=
  let tx1 := { tx with requests := PerFan.all false }
  if tx.slot.map ClaimSlot.mark = some .waiting then tx1.emptySlot else tx1

/-- R151, R103: every WAITING claim is withdrawn and decided locally, fan A's first. -/
def State.claimsGoLocal (s : State) : State :=
  (State.claimGoesLocal { s with tx := s.tx.withdrawAll } .A (decide ((s.fan .A).claim = .waiting))).claimGoesLocal
    .B (decide ((s.fan .B).claim = .waiting))

/-- R129, R131, R132: ISOLATED is set; if it was clear, isolation is entered. -/
def State.setIsolated (s : State) : State :=
  if s.line.isolated then s
  else State.claimsGoLocal (State.requestPass { s with line := { s.line with isolated := true } })

end Sys2Proof.Machine
end

