-- ==== Sys2Proof/Machine/DamperControl.lean ====
section
/-! DEFINITION. The Damper Controller's own events (chapter 7): limit changes and the two timers. -/

namespace Sys2Proof.Machine

/-- The level of one limit input. -/
def Limits.set (l : Limits) (w : LimitId) (active : Bool) : Limits :=
  match w with
  | .openLimit => { l with openLimit := active }
  | .closedLimit => { l with closedLimit := active }

/-- The level of a limit input of a damper. -/
def State.setLimit (s : State) (d : DamperId) (w : LimitId) (active : Bool) : State :=
  { s with pins := { s.pins with limits := s.pins.limits.set d ((s.pins.limits.get d).set w active) } }

/-- R111, R112, R113: a damper's record after the activation of a limit, with the limits as they then stand. -/
def DamperUnit.onLimit (u : DamperUnit) (w : LimitId) (l : Limits) (expiry : Tu) : DamperUnit :=
  if u.state = .stuck then u
  else if l.openLimit && l.closedLimit then u.stuckFor .bothLimits
  else
    match u.state with
    | .opened =>
      if w = .openLimit then { u with loss := none }
      else { u with state := .opening, travel := some expiry, loss := none }
    | .closed =>
      if w = .closedLimit then { u with loss := none }
      else { u with state := .closing, travel := some expiry, loss := none }
    | .opening => if w = .openLimit then { u with state := .opened, travel := none, loss := none } else u
    | .closing => if w = .closedLimit then { u with state := .closed, travel := none, loss := none } else u
    | .stuck => u

/-- R111, R112: a damper's record after the deactivation of a limit. -/
def DamperUnit.offLimit (u : DamperUnit) (w : LimitId) (lossExpiry : Tu) : DamperUnit :=
  match u.state with
  | .opened => if w = .openLimit then { u with loss := some lossExpiry } else u
  | .closed => if w = .closedLimit then { u with loss := some lossExpiry } else u
  | _ => u

/-- R111 to R113: a fitted damper answers a change of one of its limits. -/
def State.answerLimit (s : State) (d : DamperId) (w : LimitId) (active : Bool) : State :=
  if (s.damper d).fitted then
    if active then s.moveDamper d ((s.damper d).onLimit w (s.pins.limits.get d) s.travelExpiry)
    else s.moveDamper d ((s.damper d).offLimit w (tuAfter s.tu Config.limitLossTu))
  else s

/-- The present level of a limit input. -/
def Limits.get (l : Limits) : LimitId → Bool
  | .openLimit => l.openLimit
  | .closedLimit => l.closedLimit

/-- LIMIT_CHANGE (R111, R112, R113). In reset the level alone changes; a level that stands already is no change. -/
def execLimitChange (dt : Tu) (d : DamperId) (w : LimitId) (active : Bool) (s : State) : Answer :=
  if s.released then
    if (s.pins.limits.get d).get w = active then .next (s.elapse dt)
    else .next (((s.elapse dt).setLimit d w active).answerLimit d w active).finish
  else .next (s.setLimit d w active)

/-- TRAVEL_TIMER_EXPIRY (R112). -/
def execTravelTimerExpiry (dt : Tu) (d : DamperId) (s : State) : Answer :=
  live dt s fun s =>
    if (s.damper d).fitted = true ∧ ((s.damper d).state = .opening ∨ (s.damper d).state = .closing)
        ∧ due s.tu (s.damper d).travel = true then
      (s.moveDamper d ((s.damper d).stuckFor .travel)).finish
    else s

/-- LIMIT_LOSS_TIMER_EXPIRY (R111). -/
def execLimitLossTimerExpiry (dt : Tu) (d : DamperId) (s : State) : Answer :=
  live dt s fun s =>
    if (s.damper d).fitted = true ∧ ((s.damper d).state = .opened ∨ (s.damper d).state = .closed)
        ∧ due s.tu (s.damper d).loss = true then
      (s.moveDamper d ((s.damper d).stuckFor .limitLoss)).finish
    else s

end Sys2Proof.Machine
end

