-- ==== Sys2Proof/Machine/FanControl.lean ====
section
/-! DEFINITION. The Fan Controller's own events (chapter 6): the setpoint step, the timers of a fan, the expiry of a
start entry, tachometer pulses and proving windows. -/

namespace Sys2Proof.Machine

/-- R90: s after one step of `d` toward a target. -/
def rampStep (s target d : Nat) : Nat :=
  if s < target then (if target - s ≤ d then target else s + d)
  else if s - target ≤ d then target else s - d

/-- SETPOINT_STEP (R90). -/
def execSetpointStep (dt : Tu) (s : State) : Answer :=
  live dt s fun s =>
    if s.atStep && s.anyTurning then
      { s with fans := { s.fans with
          setpoint := rampStep s.fans.setpoint s.fans.target (s.profile.ramp / 10) } }
    else s

/-- BACKOFF_TIMER_EXPIRY (R102). -/
def execBackoffTimerExpiry (dt : Tu) (f : Fan) (s : State) : Answer :=
  live dt s fun s =>
    if (s.fan f).state = .waitSlot ∧ (s.fan f).claim = .backoff ∧ due s.tu (s.fan f).backoff = true then
      s.handClaim f
    else s

/-- START_ENTRY_EXPIRY (R100). -/
def execStartEntryExpiry (dt : Tu) (s : State) : Answer :=
  live dt s fun s =>
    match s.fans.starts with
    | [] => s
    | e :: t =>
      if reached s.tu e.expiry then State.handRemoval { s with fans := { s.fans with starts := t } } e else s

/-- RUNDOWN_TIMER_EXPIRY (R95). -/
def execRundownTimerExpiry (dt : Tu) (f : Fan) (s : State) : Answer :=
  live dt s fun s =>
    if (s.fan f).state = .rundown ∧ due s.tu (s.fan f).rundown = true then (s.endRundown f).finish else s

/-- The tachometer input of a fan shows high. -/
def State.tachHigh (s : State) (f : Fan) : State := { s with pins := { s.pins with tach := s.pins.tach.set f true } }

/-- R104: the pulse count of a fitted fan. -/
def State.countPulse (s : State) (f : Fan) : State :=
  if s.fanFitted f then s.setFan f { s.fan f with pulses := bump (s.fan f).pulses } else s

/-- TACH_PULSE (R104). In reset the level alone changes. -/
def execTachPulse (dt : Tu) (f : Fan) (s : State) : Answer :=
  if s.released then .next (((s.elapse dt).tachHigh f).countPulse f) else .next (s.tachHigh f)

/-- R105: a window is low. -/
def State.windowLow (s : State) (f : Fan) : Bool :=
  decide ((s.fan f).pulses * 1000000 < s.cfg.pulsesFull * s.speedOutput f * s.cfg.provingRatio)

/-- R105: a window whose judge mark is set is judged. -/
def State.judgeWindow (s : State) (f : Fan) : State :=
  if (s.fan f).judge then
    if s.windowLow f then
      if (s.fan f).low < 2 then s.setFan f { s.fan f with low := (s.fan f).low + 1 }
      else s.faultFan f .proving
    else s.setFan f { s.fan f with low := 0 }
  else s

/-- R104: after any judgement the counter is reloaded, the pulse count becomes 0 and the judge mark shows whether the
fan is RUNNING. -/
def State.renewWindow (s : State) (f : Fan) : State :=
  s.setFan f { s.fan f with window := some s.cfg.provingWindow, pulses := 0,
                            judge := decide ((s.fan f).state = .running) }

/-- PROVING_WINDOW_END (R104, R105): a fan's counter stands at zero. -/
def execProvingWindowEnd (dt : Tu) (f : Fan) (s : State) : Answer :=
  live dt s fun s =>
    if s.fanFitted f = true ∧ 0 < s.cfg.provingWindow ∧ (s.fan f).window = some 0 then
      ((s.judgeWindow f).renewWindow f).finish
    else s

end Sys2Proof.Machine
end

