-- ==== Sys2Proof/Machine/FirePoints.lean ====
section
/-! DEFINITION. The Fire Point Monitor (chapter 4): the input filters, activations and deactivations, the
confirmation timer and reset requests. -/

namespace Sys2Proof.Machine

/-- The raw level of an input. -/
def State.setRaw (s : State) (i : InputId) (active : Bool) : State :=
  { s with pins := { s.pins with raw := s.pins.raw.set i active } }

/-- R53: the filter run of an input whose raw level has become `active`. -/
def State.runAfter (s : State) (i : InputId) (active : Bool) : Option Tu :=
  if active = s.monitor.filtered.get i then none
  else
    match s.monitor.run.get i with
    | some r => some r
    | none => some s.tu

/-- RAW_INPUT_CHANGE (R53). In reset the level alone changes. -/
def execRawInputChange (dt : Tu) (i : InputId) (active : Bool) (s : State) : Answer :=
  if s.released then
    .next { (s.elapse dt).setRaw i active with
      monitor := { s.monitor with run := s.monitor.run.set i ((s.elapse dt).runAfter i active) } }
  else .next (s.setRaw i active)

/-- R53: the run of an input has lasted 200 ms. -/
def State.runDue (s : State) (i : InputId) : Bool :=
  match s.monitor.run.get i with
  | none => false
  | some r => reached s.tu (tuAfter r Config.filterTu)

/-- R53: the filtered value of an input becomes the raw value, and the run ends. -/
def State.setFiltered (s : State) (i : InputId) (active : Bool) : State :=
  { s with monitor := { s.monitor with filtered := s.monitor.filtered.set i active,
                                       run := s.monitor.run.set i none } }

/-- R55: the latch of a point is set. -/
def State.setLatch (s : State) (p : Ix4) : State :=
  { s with monitor := { s.monitor with latch := s.monitor.latch.set p true } }

/-- R57, R59, R60: a declaration unless the state is DECLARED already. -/
def State.declareOnce (s : State) (c : FireCause) : State :=
  if s.monitor.decl = .declared then s else s.declare c

/-- R57, R59: the activation of a SMOKE point. -/
def State.smokeActivated (s : State) : State :=
  match s.monitor.decl with
  | .clear => if s.cfg.confirmTime = 0 then s.declare .smokeConfirmed else s.enterPreAlarm
  | .preAlarm => if 2 ≤ s.smokeCount then s.declare .smokeTwo else s
  | .declared => s

/-- R55, R57, R59, R60: the activation of a point while evaluation is on. -/
def State.pointActivated (s : State) (p : Ix4) : State :=
  match s.cfg.types.get p with
  | .unused => s
  | .smoke => s.smokeActivated
  | .heat => (s.setLatch p).declareOnce .heat
  | .manual => (s.setLatch p).declareOnce .manual
  | .panel => s.declareOnce .panel

/-- R64: the outcome of a reset request. -/
def State.resetOutcome (s : State) : Status :=
  if s.zone.mode ≠ .fire then .refusedMode
  else if s.anyPhysicallyActive then .refusedActive
  else .ok

/-- R63, R64: a reset request. -/
def State.resetRequest (s : State) (src : ResetSource) : State :=
  if s.resetOutcome = .ok then s.acceptReset src else s

/-- R53 to R66: what follows an activation. -/
def State.afterActivation (s : State) : InputId → State
  | .key => s.resetRequest .key
  | .point p => if s.monitor.evaluation then s.pointActivated p else s

/-- R57, R59: what follows a deactivation. -/
def State.afterDeactivation (s : State) : InputId → State
  | .key => s
  | .point p =>
    if s.monitor.evaluation ∧ s.cfg.types.get p = .smoke ∧ s.monitor.decl = .preAlarm ∧ s.smokeCount = 0 then
      s.clearPreAlarm
    else s

/-- ACTIVATION (R53). -/
def execActivation (dt : Tu) (i : InputId) (s : State) : Answer :=
  live dt s fun s =>
    if s.runDue i && s.pins.raw.get i && !s.monitor.filtered.get i then
      ((s.setFiltered i true).afterActivation i).finish
    else s

/-- DEACTIVATION (R53). -/
def execDeactivation (dt : Tu) (i : InputId) (s : State) : Answer :=
  live dt s fun s =>
    if s.runDue i && !s.pins.raw.get i && s.monitor.filtered.get i then
      ((s.setFiltered i false).afterDeactivation i).finish
    else s

/-- CONFIRMATION_TIMER_EXPIRY (R58). -/
def execConfirmationTimerExpiry (dt : Tu) (s : State) : Answer :=
  live dt s fun s =>
    if s.monitor.evaluation ∧ s.monitor.decl = .preAlarm ∧ due s.tu s.monitor.confirm = true then
      (s.declare .smokeConfirmed).finish
    else s

end Sys2Proof.Machine
end

