-- ==== Sys2Proof/Machine/FumeMonitor.lean ====
section
/-! DEFINITION. The Fume Monitor (chapter 3): readings, histories, faults, the zone index and the fume class. -/

namespace Sys2Proof.Machine

/-- R38: a reading is good. -/
def goodReading (r : Nat) : Bool := decide (180 ≤ r) && decide (r ≤ 1010)

/-- R39: the raw index of a good reading. -/
def rawIndex (r : Nat) : Nat := min 800 (r - 200) * 1000 / 800

/-- R40: the filter value of a history. -/
def filterValue (h : List Nat) : Nat := h.sum / 4

/-- R41: the scaled index. -/
def scaledIndex (h : List Nat) (gain : Nat) : Nat := min 1000 (filterValue h * gain / 1000)

/-- R40, R44: the history after a good reading. -/
def FumeChannel.historyAfter (c : FumeChannel) (idx : Nat) : List Nat :=
  if c.health = .healthy ∧ c.history ≠ [] then c.history.tail ++ [idx] else [idx, idx, idx, idx]

/-- R40, R41, R44: a good reading. -/
def FumeChannel.takeGood (c : FumeChannel) (idx gain : Nat) : FumeChannel :=
  { health := .healthy, history := c.historyAfter idx, holdCount := 0,
    contribution := scaledIndex (c.historyAfter idx) gain }

/-- R42, R43: a faulty reading. -/
def FumeChannel.takeFaulty (c : FumeChannel) (fallback : Nat) : FumeChannel :=
  match c.health with
  | .healthy => { c with health := .holding, holdCount := 1 }
  | .holding =>
    if c.holdCount < 4 then { c with holdCount := c.holdCount + 1 }
    else { c with health := .faulted, contribution := fallback }
  | .faulted => { c with contribution := fallback }

/-- R37 to R44: the handling of a reading. -/
def FumeChannel.take (c : FumeChannel) (r gain fallback : Nat) : FumeChannel :=
  if goodReading r then c.takeGood (rawIndex r) gain else c.takeFaulty fallback

/-- R37: a channel after a sample event; a disabled channel is not read. -/
def Record.sampleChannel (r : Record) (q : Quad FumeChannel) (x : Quad Reading) (c : Ix4) : FumeChannel :=
  if r.enables.get c then (q.get c).take (x.get c).val (r.gains.get c) r.fallback else q.get c

/-- R37: the channels after a sample event. -/
def Record.sampleChannels (r : Record) (q : Quad FumeChannel) (x : Quad Reading) : Quad FumeChannel :=
  ⟨r.sampleChannel q x .i0, r.sampleChannel q x .i1, r.sampleChannel q x .i2, r.sampleChannel q x .i3⟩

/-- R45: the greatest contribution among the enabled channels. -/
def Record.zoneIndex (r : Record) (q : Quad FumeChannel) : Nat :=
  Ix4.all.foldl (fun m c => if r.enables.get c then max m (q.get c).contribution else m) 0

/-- R46: the highest class whose upper threshold F reaches. -/
def Record.classReached (r : Record) (f : Nat) : FumeClass :=
  if r.fume3.upper ≤ f then .fume3
  else if r.fume2.upper ≤ f then .fume2
  else if r.fume1.upper ≤ f then .fume1
  else .idle

/-- R47: the fall from FUME1. -/
def Record.fallFrom1 (r : Record) (f : Nat) : FumeClass := if f < r.fume1.lower then .idle else .fume1

/-- R47: the fall from FUME2. -/
def Record.fallFrom2 (r : Record) (f : Nat) : FumeClass := if f < r.fume2.lower then r.fallFrom1 f else .fume2

/-- R47: the fall from a class. -/
def Record.fallFrom (r : Record) (f : Nat) : FumeClass → FumeClass
  | .idle => .idle
  | .fume1 => r.fallFrom1 f
  | .fume2 => r.fallFrom2 f
  | .fume3 => if f < r.fume3.lower then r.fallFrom2 f else .fume3

/-- R46, R47: the class after a sample event. -/
def Record.judgeFume (r : Record) (f : Nat) (c : FumeClass) : FumeClass :=
  if c.num < (r.classReached f).num then r.classReached f else r.fallFrom f c

/-- R37 to R48: the sample event. -/
def State.sample (s : State) (x : Quad Reading) : State :=
  let q := s.cfg.sampleChannels s.fume.channels x
  let f := s.cfg.zoneIndex q
  State.recompute { s with fume := { s.fume with channels := q, index := f,
                                                 cls := s.cfg.judgeFume f s.fume.cls } }

/-- R37: the sample timer goes on to its next expiry. -/
def State.rearmSample (s : State) : State :=
  { s with fume := { s.fume with sampleExpiry := tuAfter s.fume.sampleExpiry Config.sampleTu } }

/-- SAMPLE_EVENT (R37). -/
def execSampleEvent (dt : Tu) (x : Quad Reading) (s : State) : Answer :=
  live dt s fun s =>
    if reached s.tu s.fume.sampleExpiry then
      if s.recordValid then (s.rearmSample.sample x).serve else s.rearmSample
    else s

/-- R50: the Fume Monitor re-initialises as a new record is taken. -/
def State.reinitFume (s : State) : State :=
  State.recompute { s with fume := { s.fume with channels := Quad.all FumeChannel.initial, index := 0, cls := .idle } }

end Sys2Proof.Machine
end

