-- ==== Sys2Proof/Machine/Modes.lean ====
section
/-! DEFINITION. The Mode Controller's own timers (R73, R76). -/

namespace Sys2Proof.Machine

/-- LISTEN_TIMER_EXPIRY (R73). -/
def execListenTimerExpiry (dt : Tu) (s : State) : Answer :=
  live dt s fun s =>
    if s.zone.mode = .listen ∧ due s.tu s.zone.listen = true then (s.enterMode .normal).finish else s

/-- PURGE_TIMER_EXPIRY (R76). -/
def execPurgeTimerExpiry (dt : Tu) (s : State) : Answer :=
  live dt s fun s =>
    if s.zone.mode = .purge ∧ due s.tu s.zone.purge = true then (s.enterMode .normal).finish else s

end Sys2Proof.Machine
end

