-- ==== Sys2Proof/Machine/PeerView.lean ====
section
/-! DEFINITION. The Peer View (chapter 1): lookup, insertion and eviction, the digestion of the three kinds, and the age
sweep. -/

namespace Sys2Proof.Machine

/-- R3: the lookup of an origin, from the head in ascending order. -/
def lookupEntry (o : Station) : List PeerEntry → Option PeerEntry
  | [] => none
  | e :: es => if e.origin = o then some e else if o < e.origin then none else lookupEntry o es

/-- R3, R4: a new entry placed at the lookup's insertion point. -/
def placeEntry (n : PeerEntry) : List PeerEntry → List PeerEntry
  | [] => [n]
  | e :: es => if n.origin < e.origin then n :: e :: es else e :: placeEntry n es

/-- An entry replaced by its new contents. -/
def replaceEntry (n : PeerEntry) (es : List PeerEntry) : List PeerEntry :=
  es.map fun e => if e.origin = n.origin then n else e

/-- R5: `a` is evicted before `b`: a lower class, or the same class and a greater age. -/
def evictedBefore (now : Tu) (a b : PeerEntry) : Bool :=
  decide (a.cls.num < b.cls.num) || (decide (a.cls = b.cls) && decide (tuAge now b.last < tuAge now a.last))

/-- R5: the eviction candidate. -/
def evictee (now : Tu) : List PeerEntry → Option PeerEntry
  | [] => none
  | e :: es =>
    match e.isNeighbour, evictee now es with
    | true, r => r
    | false, none => some e
    | false, some c => if evictedBefore now c e then some c else some e

/-- R4, R5: the table with a newcomer admitted, or `none` when it is refused. -/
def admitNewcomer (now : Tu) (n : PeerEntry) (es : List PeerEntry) : Option (List PeerEntry) :=
  if es.length < Config.viewCapacity then some (placeEntry n es)
  else
    match evictee now es with
    | none => none
    | some c =>
      if n.isNeighbour || decide (c.cls.num ≤ n.cls.num) then
        some (placeEntry n (es.filter fun e => decide (e.origin ≠ c.origin)))
      else none

/-- R16: an entry's class, demand or freshness has changed. -/
def PeerEntry.changedFrom (n old : PeerEntry) : Bool :=
  decide (n.cls ≠ old.cls) || decide (n.demand ≠ old.demand) || decide (n.fresh ≠ old.fresh)

/-- The table replaced. -/
def State.setEntries (s : State) (es : List PeerEntry) : State := { s with view := { s.view with entries := es } }

/-- R17: the neighbour event of a ZONE_STATUS digested into its entry. -/
def State.statusEvent (s : State) (n : PeerEntry) : State :=
  if n.isNeighbour then
    if n.cls = .fire then s.neighbourFire n.origin else s.neighbourGone n.origin
  else s

/-- R17: the neighbour event of a FIRE_ALARM digested into its entry. -/
def State.alarmEvent (s : State) (n : PeerEntry) : State :=
  if n.isNeighbour then s.neighbourFire n.origin else s

/-- R10, R11, R16: an entry found takes its new contents. -/
def State.updateEntry (s : State) (old n : PeerEntry) : State :=
  let s1 := s.setEntries (replaceEntry n s.view.entries)
  if n.changedFrom old then s1.requestPass else s1

/-- R5: a refused newcomer is counted. -/
def State.refuseNewcomer (s : State) : State := { s with view := { s.view with refused := bump s.view.refused } }

/-- R8: a frame is earlier than the entry it concerns. -/
def State.earlier (s : State) (e : FifoEntry) (p : PeerEntry) : Bool :=
  decide (tuAge s.tu p.last < tuAge s.tu e.arrival)

/-- R9: the class of a class field that is in range. -/
def classOfNum : Nat → DemandClass
  | 0 => .idle
  | 1 => .fume1
  | 2 => .fume2
  | 3 => .fume3
  | 4 => .contain
  | _ => .fire

/-- R9: a ZONE_STATUS is in range. -/
def statusInRange (cls : Byte) (demand : BitVec 16) (period : Byte) : Bool :=
  decide (cls.toNat ≤ 5) && decide (demand.toNat ≤ Config.demandMax) && inRange period.toNat 5 50

/-- R9, R146: a frame reported out of range, or a claim whose fields are, is counted in RX_ERRORS. -/
def State.countError (s : State) : State := { s with rx := { s.rx with errors := bump s.rx.errors } }

/-- R10: the entry that a ZONE_STATUS gives its origin. -/
def statusEntry (e : FifoEntry) (cls : Byte) (demand : BitVec 16) (flags : PeerFlags) (period : Byte) : PeerEntry :=
  { origin := e.origin, hit := e.hit, cls := classOfNum cls.toNat, demand := demand.toNat, flags := flags,
    period := period.toNat, assumed := false, last := e.arrival, fresh := .fresh, provisional := false }

/-- R11: the entry that a FIRE_ALARM gives an origin that has none. -/
def alarmEntry (e : FifoEntry) (demand : BitVec 16) (period : Nat) : PeerEntry :=
  { origin := e.origin, hit := e.hit, cls := .fire, demand := demand.toNat, flags := PeerFlags.absent,
    period := period, assumed := true, last := e.arrival, fresh := .fresh, provisional := false }

/-- R10: a ZONE_STATUS is digested. The hit of an entry found does not change (R2). -/
def State.takeStatus (s : State) (e : FifoEntry) (cls : Byte) (demand : BitVec 16) (flags : PeerFlags)
    (period : Byte) : State :=
  if statusInRange cls demand period then
    match lookupEntry e.origin s.view.entries with
    | some p =>
      if s.earlier e p then s
      else
        let n := { statusEntry e cls demand flags period with hit := p.hit }
        (s.updateEntry p n).statusEvent n
    | none =>
      let n := statusEntry e cls demand flags period
      match admitNewcomer s.tu n s.view.entries with
      | some es => (s.setEntries es).requestPass.statusEvent n
      | none => s.refuseNewcomer
  else s.countError

/-- R11: a FIRE_ALARM is digested. -/
def State.takeAlarm (s : State) (e : FifoEntry) (demand : BitVec 16) : State :=
  if demand.toNat ≤ Config.demandMax then
    match lookupEntry e.origin s.view.entries with
    | some p =>
      if s.earlier e p then s
      else
        let n := { p with cls := .fire, demand := demand.toNat, last := e.arrival, fresh := .fresh }
        (s.updateEntry p n).alarmEvent n
    | none =>
      let n := alarmEntry e demand s.cfg.period
      match admitNewcomer s.tu n s.view.entries with
      | some es => (s.setEntries es).requestPass.alarmEvent n
      | none => s.refuseNewcomer
  else s.countError

/-- R12: a FIRE_RESET is digested. -/
def State.takeReset (s : State) (e : FifoEntry) : State :=
  match lookupEntry e.origin s.view.entries with
  | some p =>
    if s.earlier e p then s
    else
      (s.updateEntry p { p with cls := .fume3, provisional := true, last := e.arrival,
                                fresh := .fresh }).neighbourGone e.origin
  | none => s.neighbourGone e.origin

/-- R6: the frame that is taken next: FIFO A's head while it holds one, FIFO B's otherwise. -/
def State.nextFrame (s : State) : Option FifoEntry :=
  match s.rx.fifoA with
  | e :: _ => some e
  | [] => s.rx.fifoB.head?

/-- R6: taking the head frees its place. -/
def State.popFrame (s : State) : State :=
  match s.rx.fifoA with
  | _ :: t => { s with rx := { s.rx with fifoA := t } }
  | [] => { s with rx := { s.rx with fifoB := s.rx.fifoB.tail } }

/-- R6, R7, R20: the Peer View may take a frame. -/
def State.mayDigest (s : State) : Bool := s.recordValid && !s.frozen

/-- DIGEST_ZONE_STATUS (R10): the frame taken next is a ZONE_STATUS and is digested. -/
def execDigestZoneStatus (dt : Tu) (s : State) : Answer :=
  live dt s fun s =>
    match s.mayDigest, s.nextFrame with
    | true, some ⟨o, h, a, .zoneStatus cls demand flags period⟩ =>
      (s.popFrame.takeStatus ⟨o, h, a, .zoneStatus cls demand flags period⟩ cls demand flags period).finish
    | _, _ => s

/-- DIGEST_FIRE_ALARM (R11): the frame taken next is a FIRE_ALARM and is digested. -/
def execDigestFireAlarm (dt : Tu) (s : State) : Answer :=
  live dt s fun s =>
    match s.mayDigest, s.nextFrame with
    | true, some ⟨o, h, a, .fireAlarm demand⟩ => (s.popFrame.takeAlarm ⟨o, h, a, .fireAlarm demand⟩ demand).finish
    | _, _ => s

/-- DIGEST_FIRE_RESET (R12): the frame taken next is a FIRE_RESET and is digested. -/
def execDigestFireReset (dt : Tu) (s : State) : Answer :=
  live dt s fun s =>
    match s.mayDigest, s.nextFrame with
    | true, some ⟨o, h, a, .fireReset⟩ => (s.popFrame.takeReset ⟨o, h, a, .fireReset⟩).finish
    | _, _ => s

/-! ### Ageing (R13, R14) -/

/-- R14: an entry after a sweep, `none` when it is deleted. -/
def sweepEntry (now : Tu) (e : PeerEntry) : Option PeerEntry :=
  if e.fresh = .lost then some e
  else if Config.lostPeriods * e.period * Config.stepTu < tuAge now e.last then
    if e.isNeighbour then some { e with fresh := .lost } else none
  else if e.fresh = .fresh ∧ Config.stalePeriods * e.period * Config.stepTu < tuAge now e.last then
    some { e with fresh := .stale }
  else some e

/-- R14, R16: a sweep is taken. -/
def State.sweepNow (s : State) : State :=
  let es := s.view.entries.filterMap (sweepEntry s.tu)
  if es = s.view.entries then s else (s.setEntries es).requestPass

/-- SWEEP (R13, R14): a sweep falls due; while the view is frozen it is held pending. -/
def execSweep (dt : Tu) (s : State) : Answer :=
  live dt s fun s =>
    if s.atStep && s.recordValid then
      if s.frozen then { s with view := { s.view with pendingSweep := true } } else s.sweepNow.serve
    else s

/-- R20: the view is emptied. -/
def State.emptyView (s : State) : State :=
  let s1 := { s with view := { s.view with entries := [], pendingEmpty := false } }
  if s.view.entries = [] then s1 else s1.requestPass

end Sys2Proof.Machine
end

