-- ==== Sys2Proof/Machine/ZoneLine.lean ====
section
/-! DEFINITION. The Line Interface and the Transmit Unit (chapters 8 and 10): idle and start bits, the start of a
frame and the ends of an attempt, a stuck line, isolation, and the status schedule. -/

namespace Sys2Proof.Machine

/-! ### Offers and the start of a frame (R124, R148, R153, R158) -/

/-- R157: the Transmit Unit offers nothing in HOLD and LISTEN. -/
def Mode.maySend : Mode → Bool
  | .hold => false
  | .listen => false
  | _ => true

/-- R153: the own flags of a ZONE_STATUS. -/
def State.ownFlags (s : State) : PeerFlags :=
  { preAlarm := decide (s.monitor.decl = .preAlarm), fanFault := s.fanFault, short := s.share.shortFlag,
    isolated := s.tx.isolatedMark }

/-- R153: a ZONE_STATUS built now. -/
def State.statusContent (s : State) : Content :=
  .status s.share.cls s.share.demand s.ownFlags s.cfg.period

/-- R152: the START_CLAIM of a fan built now. -/
def State.claimContent (s : State) (f : Fan) : Content := .claim f (decide (s.zone.mode = .fire))

/-- R148: the highest sendable content of the slots, in the order URGENT, CLAIM, STATUS. -/
def State.slotContent (s : State) : Option Content :=
  match s.tx.urgent, s.tx.slot with
  | some u, _ => some (.urgent u)
  | none, some ⟨f, .waiting⟩ => some (s.claimContent f)
  | none, _ => if s.tx.statusPending then some s.statusContent else none

/-- R158: what a probe takes. -/
def State.probeContent (s : State) : Content :=
  match s.tx.urgent with
  | some u => .urgent u
  | none => s.statusContent

/-- R148, R158: the attempt that begins on an open line, if an offer stands. -/
def State.nextAttempt (s : State) : Option Attempt :=
  if s.line.isolated then
    if s.tx.probeOffer then some ⟨s.probeContent, true⟩ else none
  else if s.zone.mode.maySend then s.slotContent.map fun c => ⟨c, false⟩
  else none

/-- R153: the start of a status clears the change mark and restarts the heartbeat and spacing timers. -/
def State.statusStarts (s : State) : State :=
  { s with tx := { s.tx with
      changeMark := false
      heartbeat := some (tuAfter s.tu (s.cfg.period * Config.stepTu))
      spacing := some (tuAfter s.tu Config.spacingTu) } }

/-- R148, R101: the start of a claim marks the slot and tells the fan. -/
def State.claimStarts (s : State) (f : Fan) : State :=
  let s1 := s.setClaim f .sending none
  { s1 with tx := { s1.tx with slot := some ⟨f, .onLine⟩ } }

/-- R148: the chosen content passes to the line. -/
def State.contentStarts (s : State) : Content → State
  | .urgent _ => { s with tx := { s.tx with urgent := none } }
  | .claim f _ => s.claimStarts f
  | .status _ _ _ _ => s.statusStarts

/-- R124, R120, R137: an attempt begins. -/
def State.beginAttempt (s : State) (a : Attempt) : State :=
  let s1 := { s with
    line := { s.line with state := .sending }
    rx := { s.rx with asm := .assembling, buffer := [], mark := .sending } }
  let s2 := s1.contentStarts a.content
  { s2 with tx := { s2.tx with onLine := some a, probeOffer := s2.tx.probeOffer && !a.probe } }

/-- FRAME_START (R124): a frame begins on an open line. -/
def execFrameStart (dt : Tu) (s : State) : Answer :=
  live dt s fun s =>
    if s.lineOpen then
      match s.nextAttempt with
      | some a => s.beginAttempt a
      | none => s
    else s

/-! ### The ends of an attempt (R150, R152, R156, R158) -/

/-- R150: an URGENT content whose attempt failed returns to pending, or is discarded for a newer one. -/
def State.urgentReturns (s : State) (u : Urgent) : State :=
  match s.tx.urgent with
  | some _ => s
  | none => s.queueUrgent u

/-- R102, R152: an abandoned frame has ended: a claim waiting to start is started. -/
def State.abandonedEnds (s : State) (f : Fan) : State :=
  if (s.fan f).claim = .abandoned then
    if (s.fan f).state = .waitSlot then s.handClaim f else s.setClaim f .none none
  else s

/-- R103, R152: a claim whose attempt ended without an echo under isolation leaves the slot and counts among the
WAITING claims that are decided locally. -/
def State.claimLeavesLine (s : State) (f : Fan) : State :=
  let c : ClaimState := match (s.fan f).claim with
    | .sending => .waiting
    | .abandoned => if (s.fan f).state = .waitSlot then .waiting else .none
    | x => x
  let s1 := s.setClaim f c (s.fan f).backoff
  { s1 with tx := s1.tx.emptySlot }

/-- R101, R152: a claim is WAITING again after its attempt. -/
def State.claimWaitsAgain (s : State) (f : Fan) : State :=
  let s1 := s.setClaim f .waiting none
  { s1 with tx := { s1.tx with slot := some ⟨f, .waiting⟩ } }

/-- R152: a claim is dropped from the slot. -/
def State.dropSlot (s : State) : State := { s with tx := s.tx.freeSlot }

/-- The claim in the slot is not ABANDONED (R152). -/
def State.slotKept (s : State) (f : Fan) : Bool := decide (s.tx.slot = some ⟨f, .onLine⟩)

/-- R152: contention lost by a claim while the station is not isolated. -/
def State.claimLost (s : State) (f : Fan) : State :=
  if s.slotKept f then s.claimWaitsAgain f else s.dropSlot.abandonedEnds f

/-- R152: a bit error of a claim while the station is not isolated. -/
def State.claimFails (s : State) (f : Fan) : State :=
  if s.slotKept f then
    if s.tx.claimAttempts + 1 < Config.attemptLimit then
      State.claimWaitsAgain { s with tx := { s.tx with claimAttempts := s.tx.claimAttempts + 1 } } f
    else s.dropSlot.enterBackoff f
  else s.dropSlot.abandonedEnds f

/-- R156: a bit error of a status that is no probe. -/
def State.statusFails (s : State) : State :=
  if s.tx.statusAttempts + 1 < Config.attemptLimit then
    { s with tx := { s.tx with statusAttempts := s.tx.statusAttempts + 1 } }
  else { s with tx := { s.tx with statusPending := false, statusAttempts := 0 } }

/-- R120, R137: an attempt ends before its frame: the station releases the line and goes on receiving. -/
def State.releaseLine (s : State) (m : AttemptMark) : State :=
  { s with line := { s.line with state := .receiving }
           rx := { s.rx with mark := m }
           tx := { s.tx with onLine := none } }

/-- R158: the probe offer stands again after contention is lost. -/
def State.offerAgain (s : State) (a : Attempt) : State :=
  { s with tx := { s.tx with probeOffer := s.tx.probeOffer || a.probe } }

/-- R125, R150, R152, R156: contention is lost. -/
def State.loseContention (s : State) (a : Attempt) : State :=
  let s1 := (s.releaseLine .lost).offerAgain a
  match a.content with
  | .urgent u => s1.urgentReturns u
  | .claim f _ => if s1.line.isolated then (s1.claimLeavesLine f).claimsGoLocal else s1.claimLost f
  | .status _ _ _ _ => s1

/-- CONTENTION_LOST (R125). -/
def execContentionLost (dt : Tu) (s : State) : Answer :=
  live dt s fun s =>
    match s.line.state, s.tx.onLine with
    | .sending, some a => (s.loseContention a).serve
    | _, _ => s

/-- R131: the consecutive transmit failure count after one more failure. -/
def State.countFailure (s : State) : State :=
  { s with line := { s.line with failures := min Config.failureLimit (s.line.failures + 1) } }

/-- R131: this failure is the one that makes the count 16. -/
def State.isSixteenth (s : State) : Bool := decide (s.line.failures + 1 = Config.failureLimit)

/-- R150, R152, R156, R158: what a bit error does to the content, `isolated` as the same event leaves it. -/
def State.contentFails (s : State) (a : Attempt) (isolated : Bool) : State :=
  match a.content with
  | .urgent u => s.urgentReturns u
  | .claim f _ => if isolated then s.claimLeavesLine f else s.claimFails f
  | .status _ _ _ _ => if isolated || a.probe then s else s.statusFails

/-- R131, R103: after a bit error, isolation is entered, or under isolation the claim is decided locally. -/
def State.isolationAfterError (s : State) (sixteenth : Bool) : State :=
  if s.line.isolated then s.claimsGoLocal
  else if sixteenth then s.setIsolated
  else s

/-- R126: a bit error ends the attempt. -/
def State.failAttempt (s : State) (a : Attempt) : State :=
  (((s.releaseLine .failed).countFailure).contentFails a (s.line.isolated || s.isSixteenth)).isolationAfterError
    s.isSixteenth

/-- BIT_ERROR (R126). -/
def execBitError (dt : Tu) (s : State) : Answer :=
  live dt s fun s =>
    match s.line.state, s.tx.onLine with
    | .sending, some a => (s.failAttempt a).serve
    | _, _ => s

/-- R133: the end of isolation. -/
def State.endIsolation (s : State) : State :=
  State.notice (State.requestPass
    { s with line := { s.line with isolated := false }
             tx := { s.tx with isolatedMark := true, probeOffer := false } })

/-- R139, R99, R101: the own echo of a START_CLAIM. -/
def State.claimEchoes (s : State) (f : Fan) (fire : Bool) : State :=
  let e := s.entryNow s.cfg.station f fire
  if (s.fan f).claim = .sending then s.dropSlot.decideClaim f e
  else (s.dropSlot.takeEntry e).abandonedEnds f

/-- R156: a status has been sent. -/
def State.statusSent (s : State) (flags : PeerFlags) : State :=
  { s with tx := { s.tx with statusPending := false, statusAttempts := 0,
                             isolatedMark := s.tx.isolatedMark && !flags.isolated } }

/-- R127, R139: what completion does to the content. -/
def State.contentSent (s : State) : Content → State
  | .urgent _ => s
  | .claim f fire => s.claimEchoes f fire
  | .status _ _ flags _ => s.statusSent flags

/-- R127, R136, R139: the own frame completes; its arrival is the own echo. -/
def State.completeAttempt (s : State) (a : Attempt) : State :=
  let s1 := { s with
    line := { s.line with state := .receiving, failures := 0 }
    rx := { s.rx with asm := .tail, buffer := frameChars s.cfg.station a.content }
    tx := { s.tx with onLine := none } }
  let s2 := s1.contentSent a.content
  if a.probe && s2.line.isolated then s2.endIsolation else s2

/-! ### Idle, start bits and a stuck line (R120, R129, R130, R136) -/

/-- R137: a frame condemned is counted unless the own attempt failed. -/
def Receiver.countCondemned (r : Receiver) : Receiver :=
  if r.mark = .failed then r else { r with errors := bump r.errors }

/-- R136: the assembly at idle. -/
def Receiver.atIdle (r : Receiver) : Receiver :=
  match r.asm with
  | .skipping => { r with asm := .ready }
  | .ready => r
  | .assembling => { r.countCondemned with asm := .ready, buffer := [] }
  | .tail => { r with asm := .ready }

/-- LINE_IDLE (R120). The clear run of R130 began at the first of the recessive samples. -/
def execLineIdle (idle : IdleRun) (s : State) : Answer :=
  live idle.dt s fun s =>
    if s.line.state = .receiving then
      { s with line := { s.line with state := .idle, clearRun := s.tu - idle.run }, rx := s.rx.atIdle }
    else s

/-- R136: the assembly at a start bit that the station does not drive. -/
def Receiver.atStartBit (r : Receiver) : Receiver :=
  match r.asm with
  | .skipping => r
  | .ready => { r with asm := .assembling, buffer := [], mark := .none }
  | .assembling => r
  | .tail => { r with asm := .skipping, errors := bump r.errors }

/-- ANOTHERS_START_BIT (R120, R136). While the station is sending, the frame on the line is its own. -/
def execAnothersStartBit (dt : Tu) (s : State) : Answer :=
  live dt s fun s =>
    if s.line.state = .sending then s
    else { s with line := { s.line with state := .receiving }, rx := s.rx.atStartBit }

/-- R120, R129: the line state under a dominant level that the station does not drive. -/
def LineState.underDominant : LineState → LineState
  | .idle => .receiving
  | .receiving => .receiving
  | .sending => .sending

/-- LINE_STUCK_DETECTED (R129). -/
def execLineStuckDetected (dt : Tu) (s : State) : Answer :=
  live dt s fun s =>
    (State.setIsolated { s with line := { s.line with state := s.line.state.underDominant, stuck := true } }).serve

/-- R130: the line has been recessive for 10 000 TU. A line that a dominant level holds is not IDLE; on an IDLE line the
clear run is the one that made it so. -/
def State.clearRunDone (s : State) : Bool :=
  decide (s.line.state = .idle) && reached s.tu (tuAfter s.line.clearRun Config.clearRunTu)

/-- LINE_STUCK_CLEAR (R130). -/
def execLineStuckClear (dt : Tu) (s : State) : Answer :=
  live dt s fun s =>
    if s.line.stuck && s.clearRunDone then { s with line := { s.line with stuck := false } } else s

/-! ### The status schedule and the probes (R154, R155, R158) -/

/-- HEARTBEAT_EXPIRY (R154). -/
def execHeartbeatExpiry (dt : Tu) (s : State) : Answer :=
  live dt s fun s => if due s.tu s.tx.heartbeat then s.startHeartbeat.requestPass.serve else s

/-- SPACING_TIMER_EXPIRY (R155). -/
def execSpacingTimerExpiry (dt : Tu) (s : State) : Answer :=
  live dt s fun s =>
    if due s.tu s.tx.spacing then
      { s with tx := { s.tx with spacing := none,
                                 statusPending := s.tx.statusPending || s.tx.changeMark } }
    else s

/-- R158: the TU counter stands at the station's probe instant. -/
def State.atProbeInstant (s : State) : Bool :=
  decide (s.tu.toNat % Config.probePeriodTu = Config.probeSpacingTu * s.cfg.station.val)

/-- PROBE_INSTANT (R158). -/
def execProbeInstant (dt : Tu) (s : State) : Answer :=
  live dt s fun s =>
    if s.atProbeInstant && s.line.isolated && !s.line.stuck && s.zone.mode.maySend && s.tx.onLine.isNone then
      { s with tx := { s.tx with probeOffer := true } }
    else s

end Sys2Proof.Machine
end

