-- ==== Sys2Proof/Machine/Reception.lean ====
section
/-! DEFINITION. The Frame Receiver (chapter 9): condemned frames, arrivals, the duplicate origin, heard claims and the
receive FIFOs. -/

namespace Sys2Proof.Machine

/-- R128, R136: the assembly when a frame, or a run of characters after one, is condemned. -/
def Receiver.condemn (r : Receiver) : Receiver :=
  match r.asm with
  | .assembling => { r.countCondemned with asm := .skipping, buffer := [] }
  | .tail => { r with asm := .skipping, errors := bump r.errors }
  | .skipping => r
  | .ready => r

/-- R128, R137: a frame is condemned. While every bit sampled matches what the station sends, none is. -/
def State.condemnFrame (s : State) : State :=
  if s.rx.asm = .assembling ∧ s.rx.mark = .sending then s
  else { s with rx := s.rx.condemn }

/-- FRAME_CONDEMNED (R128): the characters received fail a check. Characters that fail none condemn nothing. -/
def execFrameCondemned (dt : Tu) (chars : List Byte) (framingError : Bool) (s : State) : Answer :=
  live dt s fun s => if framingError || decide (judgeFrame chars = .bad) then s.condemnFrame else s

/-- R142: what a FIFO keeps of a frame. -/
def fifoBody : HeardBody → Option FifoBody
  | .fireAlarm demand => some (.fireAlarm demand)
  | .fireReset => some .fireReset
  | .startClaim _ _ => none
  | .zoneStatus cls demand flags period => some (.zoneStatus cls demand (flagsOf flags) period)

/-- R143: a frame is lost for want of room. -/
def Receiver.loseFrame (r : Receiver) : Receiver := { r with lost := bump r.lost }

/-- R143: a frame joins FIFO B, or is lost. -/
def Receiver.joinB (r : Receiver) (e : FifoEntry) : Receiver :=
  if r.fifoB.length < Config.fifoBCapacity then { r with fifoB := r.fifoB ++ [e] } else r.loseFrame

/-- R143: a frame is routed by its kind. -/
def Receiver.route (r : Receiver) (e : FifoEntry) : Receiver :=
  match e.body with
  | .zoneStatus _ _ _ _ => r.joinB e
  | _ => if r.fifoA.length < Config.fifoACapacity then { r with fifoA := r.fifoA ++ [e] } else r.joinB e

/-- The fan of a fan field that is in range (R122). -/
def fanOfNum (n : Nat) : Fan := if n = 0 then .A else .B

/-- R98, R144: a heard START_CLAIM. -/
def State.heardClaim (s : State) (origin : Station) (fan fire : Byte) : State :=
  if s.recordValid then
    if fan.toNat ≤ 1 ∧ fire.toNat ≤ 1 then
      s.takeEntry (s.entryNow origin (fanOfNum fan.toNat) (decide (fire.toNat = 1)))
    else s.countError
  else s

/-- R138, steps 2 to 4: a valid frame that is not the own echo. -/
def State.takeHeard (s : State) (h : Heard) : State :=
  if s.recordValid = true ∧ h.origin = s.cfg.station then { s with rx := { s.rx with duplicate := true } }
  else
    match h.body with
    | .startClaim fan fire => s.heardClaim h.origin fan fire
    | b =>
      match fifoBody b with
      | some f => { s with rx := s.rx.route ⟨h.origin, hitOf s.cfg.filters h.origin, s.tu, f⟩ }
      | none => s

/-- R136, R138: a valid frame arrives from the line. -/
def State.arrive (s : State) (chars : List Byte) (h : Heard) : State :=
  State.takeHeard { s with rx := { s.rx with asm := .tail, buffer := chars } } h

/-- R138: the frame in assembly completes. -/
def State.frameCompletes (s : State) (chars : List Byte) : State :=
  match s.rx.mark, s.line.state, s.tx.onLine with
  | .sending, .sending, some a => s.completeAttempt a
  | .sending, _, _ => s
  | _, _, _ =>
    match judgeFrame chars with
    | .valid h => s.arrive chars h
    | .bad => s.condemnFrame
    | .unfinished => s

/-- FRAME_ARRIVAL (R138). A frame arrives from ASSEMBLING alone (R136). -/
def execFrameArrival (dt : Tu) (chars : List Byte) (s : State) : Answer :=
  live dt s fun s => if s.rx.asm = .assembling then (s.frameCompletes chars).serve else s

end Sys2Proof.Machine
end

