-- ==== Sys2Proof/Machine/ServicePort.lean ====
section
/-! DEFINITION. The Service Port and the Point Space (chapters 11 and 12): the request assembly, the judgement of
requests, reads, forces, fire resets and fault clears. -/

namespace Sys2Proof.Machine

/-! ### The port (R166, R167) -/

/-- R167: a response goes out; the port is busy until its last character has been sent. -/
def State.respond (s : State) (code : Byte) (st : Status) (data : List Byte) : State :=
  { s with port := { s.port with state := .ready, chars := [], busy := true,
                                 response := responseChars code st data } }

/-- The port takes the characters of a request. -/
def State.portFree (s : State) : Bool := !s.port.busy && decide (s.port.state = .ready)

/-- The last character of a request completes now. -/
def State.charNow (s : State) : State := { s with port := { s.port with lastChar := s.tu } }

/-- R166: a length character above 200 makes the assembly SKIPPING. -/
def State.startSkipping (s : State) (code : Byte) : State :=
  { s with port := { s.port with state := .skipping, chars := [code] } }

/-- R166, R167: a request with a code of the command table, whose data length is `n`: the port's own steps, and then
the command's. A busy port discards the characters, and the time of the last character stays as it was (log entry 31); in
SKIPPING they are ignored, and the silence starts again at the last of them. -/
def State.request (s : State) (code : Byte) (n : Nat) (req : Request) (act : State → State) : State :=
  if s.portFree then
    if Config.requestMax < req.data.length then s.charNow.startSkipping code
    else if !requestSumOk code req then s.charNow.respond code .badCheck []
    else if req.data.length ≠ n then s.charNow.respond code .badLength []
    else act s.charNow
  else if s.port.busy then s
  else s.charNow

/-- R166: one character taken into the request assembly. -/
def Port.feed (p : Port) (c : Byte) : Port :=
  if p.busy then p
  else
    match p.state with
    | .ready => { p with state := .assembling, chars := [c] }
    | .assembling =>
      if p.chars.length = 1 ∧ Config.requestMax < c.toNat then { p with state := .skipping }
      else { p with chars := p.chars ++ [c] }
    | .skipping => p

/-- R166: the characters of a partial request. -/
def State.feedPort (s : State) (cs : List Byte) : State := { s with port := cs.foldl Port.feed s.port }

/-- R166: a partial request is discarded. -/
def State.discardRequest (s : State) : State := { s with port := { s.port with state := .ready, chars := [] } }

/-- R166: 50 ms without a character end a partial request, and after an over-long length answer BAD_LENGTH. -/
def State.endOfGap (s : State) : State :=
  if s.port.busy then s
  else
    match s.port.state with
    | .ready => s
    | .assembling => s.discardRequest
    | .skipping => s.respond (s.port.chars.headD 0) .badLength []

/-- R166: the gap has lasted 50 ms: with characters in the command it follows them, and without any it is measured
from the last character. -/
def State.gapDue (s : State) (cs : List Byte) : Bool :=
  !cs.isEmpty || reached s.tu (tuAfter s.port.lastChar Config.serviceGapTu)

/-- R166: the last character of a run that 50 ms have followed. -/
def State.charBeforeGap (s : State) (cs : List Byte) : State :=
  if cs.isEmpty || s.port.busy then s
  else { s with port := { s.port with lastChar := s.tu - BitVec.ofNat 32 Config.serviceGapTu } }

/-- SERVICE_TIMEOUT (R166). -/
def execServiceTimeout (dt : Tu) (cs : List Byte) (s : State) : Answer :=
  live dt s fun s => if s.gapDue cs then ((s.charBeforeGap cs).feedPort cs).endOfGap else s

/-- R166: a character with a framing error discards a partial request, and is ignored in SKIPPING. -/
def State.framingError (s : State) : State :=
  if s.port.busy then s
  else
    match s.port.state with
    | .skipping => s.charNow
    | _ => s.charNow.discardRequest

/-- SERVICE_FRAMING_ERROR (R166). -/
def execServiceFramingError (dt : Tu) (cs : List Byte) (s : State) : Answer :=
  live dt s fun s => (s.feedPort cs).framingError

/-- RESPONSE_SENT (R166): the last character of a response has been sent. -/
def execResponseSent (dt : Tu) (s : State) : Answer :=
  live dt s fun s =>
    if s.port.response = [] then s else { s with port := { s.port with busy := false, response := [] } }

/-- UNKNOWN_COMMAND (R167). A code of the command table makes the request another command's, and nothing comes of it
here. -/
def execUnknownCommand (dt : Tu) (code : Byte) (req : Request) (s : State) : Answer :=
  live dt s fun s =>
    if code ∈ commandCodes then s
    else s.request code req.data.length req fun s => s.respond code .unknown []

/-! ### Reads (R168 to R170) -/

/-- R168: the data of IDENTIFY. -/
def identifyData : List Byte := char2 Config.partCode ++ [char1 Config.revision]

/-- IDENTIFY (R168). -/
def execIdentify (dt : Tu) (req : Request) (s : State) : Answer :=
  live dt s fun s => s.request 0x01 0 req fun s => s.respond 0x01 .ok identifyData

/-- R169: the number of a mode. -/
def Mode.num : Mode → Nat
  | .hold => 0
  | .listen => 1
  | .normal => 2
  | .contain => 3
  | .fire => 4
  | .purge => 5

/-- R169: the number of a result flag. -/
def ResultFlag.num : ResultFlag → Nat
  | .nil => 0
  | .full => 1
  | .short => 2
  | .none => 3

/-- R169: the number of a declaration state. -/
def Declaration.num : Declaration → Nat
  | .clear => 0
  | .preAlarm => 1
  | .declared => 2

/-- R169: the number of a declaration cause, 255 for none. -/
def causeNum : Option FireCause → Nat
  | none => 255
  | some c => c.code

/-- R169: the number of a fan state, in the order of chapter 6. -/
def FanState.num : FanState → Nat
  | .stopped => 0
  | .waitDamper => 1
  | .waitSlot => 2
  | .starting => 3
  | .running => 4
  | .rundown => 5
  | .faulted => 6

/-- R169: the number of a fan's fault cause. -/
def fanFaultNum : Option FanFault → Nat
  | none => 0
  | some .damper => 1
  | some .proving => 2

/-- R169: the number of a damper state. -/
def DamperState.num : DamperState → Nat
  | .closed => 0
  | .opening => 1
  | .opened => 2
  | .closing => 3
  | .stuck => 4

/-- R169: the number of a stuck reason. -/
def reasonNum : Option StuckReason → Nat
  | none => 0
  | some .travel => 1
  | some .limitLoss => 2
  | some .bothLimits => 3

/-- R169: the bytes of a fan. -/
def State.fanBytes (s : State) (f : Fan) : List Byte :=
  char1 (s.fan f).state.num :: char1 (fanFaultNum (s.fan f).cause) :: char2 (s.speedOutput f)

/-- R169: the byte of a damper. Its bits 5 and 6, which R169 does not name, are 0 (log entry 30). -/
def State.damperByte (s : State) (d : DamperId) : Byte :=
  char1 ((s.damper d).state.num + 8 * reasonNum (s.damper d).reason + weight (s.damper d).fitted 128)

/-- R169: byte 7. -/
def State.flagByte (s : State) : Byte :=
  char1 (weight s.share.results.isoRule 1 + weight s.degraded 2 + weight s.line.isolated 4 + weight s.line.stuck 8
    + weight (decide (s.line.rate = .r115200)) 16 + weight s.recordValid 32 + weight s.rx.duplicate 64)

/-- R169: the data of READ STATE. -/
def State.stateData (s : State) : List Byte :=
  [char1 s.zone.mode.num, char1 s.share.cls.num] ++ char2 s.share.demand ++ char2 s.share.results.grant
  ++ [char1 s.share.results.flag.num, s.flagByte]
  ++ char2 s.share.results.t ++ char2 s.fans.setpoint
  ++ char2 s.share.results.rOwn ++ char2 s.share.results.sOwn
  ++ char2 s.fume.index ++ [char1 s.fume.cls.num]
  ++ [char1 s.monitor.decl.num, char1 (causeNum s.monitor.cause)]
  ++ [char1 s.causeCode, char1 s.line.failures]
  ++ s.fanBytes .A ++ s.fanBytes .B
  ++ DamperId.all.map s.damperByte
  ++ char2 s.rx.errors ++ char2 s.rx.lost ++ char2 s.view.refused
  ++ char1 s.zone.contain.length :: s.zone.contain.map (fun o => char1 o.val)

/-- READ_STATE (R169). -/
def execReadState (dt : Tu) (req : Request) (s : State) : Answer :=
  live dt s fun s => s.request 0x10 0 req fun s => s.respond 0x10 .ok s.stateData

/-- R170: the number of a hit, 255 for NONE. -/
def hitNum : Option FilterIx → Nat
  | none => 255
  | some h => h.val

/-- R170: the number of a freshness. -/
def Freshness.num : Freshness → Nat
  | .fresh => 0
  | .stale => 1
  | .lost => 2

/-- R170: the bytes of a peer entry. Bits 6 and 7 of the flags, which R170 does not name, are 0 (log entry 30). -/
def PeerEntry.bytes (e : PeerEntry) : List Byte :=
  [char1 e.origin.val, char1 (hitNum e.hit), char1 e.cls.num] ++ char2 e.demand
  ++ [char1 (e.flags.code + weight e.assumed 16 + weight e.provisional 32), char1 e.period]
  ++ char4 e.last ++ [char1 e.fresh.num]

/-- R19, R170: the data of READ PEER, empty for EMPTY. -/
def State.peerData (s : State) (i : Nat) : List Byte :=
  match s.view.entries[i]? with
  | some e => e.bytes
  | none => []

/-- READ_PEER (R19, R170). -/
def execReadPeer (dt : Tu) (req : Request) (s : State) : Answer :=
  live dt s fun s => s.request 0x11 1 req fun s =>
    if Config.viewCapacity ≤ (reqArg req 0).toNat then s.respond 0x11 .badArg []
    else s.respond 0x11 .ok (s.peerData (reqArg req 0).toNat)

/-- R170: the bytes of a Start List entry. -/
def ClaimEntry.bytes (e : ClaimEntry) : List Byte :=
  [char1 e.origin.val, char1 (fanCode e.fan), char1 (weight e.fire 1)] ++ char4 e.arrival ++ char4 e.expiry

/-- R170: the data of READ STARTS. -/
def State.startsData (s : State) : List Byte :=
  char1 s.fans.starts.length :: s.fans.starts.flatMap ClaimEntry.bytes

/-- READ_STARTS (R170). -/
def execReadStarts (dt : Tu) (req : Request) (s : State) : Answer :=
  live dt s fun s => s.request 0x12 0 req fun s => s.respond 0x12 .ok s.startsData

/-! ### Points (R161 to R164) -/

/-- R161: the first address of a read. -/
def readBase (req : Request) : Int := (reqArg req 0).toNat + (reqArg req 1).toInt

/-- R161: a read names addresses that exist. -/
def readInRange (req : Request) : Bool :=
  decide ((reqArg req 0).toNat < Config.pointCount) && inRange (reqArg req 2).toNat 1 16
  && decide (0 ≤ readBase req) && decide (readBase req + (reqArg req 2).toNat ≤ Config.pointCount)

/-- R161: the values of consecutive points. -/
def State.pointData (s : State) (a n : Nat) : List Byte :=
  (List.range n).map fun i => char1 (weight (s.pointValue (a + i)) 1)

/-- R160: the levels that no command announces, as they stand. -/
def State.seeLines (s : State) (l : LiveLines) : State :=
  { s with pins := { s.pins with strap := l.strap, tach := ⟨l.tachA, l.tachB⟩ } }

/-- READ_POINTS (R161). -/
def execReadPoints (dt : Tu) (req : Request) (l : LiveLines) (s : State) : Answer :=
  live dt s fun s => (s.seeLines l).request 0x20 3 req fun s =>
    if readInRange req then s.respond 0x20 .ok (s.pointData (readBase req).toNat (reqArg req 2).toNat)
    else s.respond 0x20 .badArg []

/-- R162: the addresses of the masked points. -/
def maskedPoints (req : Request) : List (Nat × Bool) :=
  ((List.range 8).filter fun i => bitOf (reqArg req 1) i).map fun i =>
    ((reqArg req 0).toNat + i, bitOf (reqArg req 2) i)

/-- R162: a point is forcible. -/
def forcible (a : Nat) : Bool := inRange a 72 77 || decide (a = 80) || decide (a = 81)

/-- R162: the force of one point. -/
def Forces.force (x : Forces) (p : Nat × Bool) : Forces :=
  if p.1 = 80 then { x with fire := ⟨true, p.2⟩ }
  else if p.1 = 81 then { x with fault := ⟨true, p.2⟩ }
  else
    match damperOfNum (p.1 - 72) with
    | some d => { x with dampers := x.dampers.set d ⟨true, p.2⟩ }
    | none => x

/-- R162: the outcome of a MODIFY POINTS request. -/
def State.modifyOutcome (s : State) (req : Request) : Status :=
  if decide (Config.pointCount ≤ (reqArg req 0).toNat) || (maskedPoints req).any (fun p => decide (Config.pointCount ≤ p.1))
  then .badArg
  else if s.zone.mode ≠ .hold ∧ s.zone.mode ≠ .normal then .refusedMode
  else if (maskedPoints req).all fun p => forcible p.1 then .ok
  else .refusedPoint

/-- R162: the forces of an accepted request. -/
def State.setForces (s : State) (req : Request) : State :=
  { s with forces := (maskedPoints req).foldl Forces.force s.forces }

/-- MODIFY_POINTS (R162, R163). -/
def execModifyPoints (dt : Tu) (req : Request) (s : State) : Answer :=
  live dt s fun s => s.request 0x21 3 req fun s =>
    if s.modifyOutcome req = .ok then ((s.setForces req).respond 0x21 .ok []).finish
    else s.respond 0x21 (s.modifyOutcome req) []

/-- R164: every force record is cleared. -/
def State.releaseForces (s : State) : State := { s with forces := Forces.clear }

/-- RELEASE_POINTS (R164). -/
def execReleasePoints (dt : Tu) (req : Request) (s : State) : Answer :=
  live dt s fun s => s.request 0x22 0 req fun s => (s.releaseForces.respond 0x22 .ok []).finish

/-! ### Fire reset and fault clear (R64, R97, R114, R140) -/

/-- FIRE_RESET (R63, R64). -/
def execFireReset (dt : Tu) (req : Request) (s : State) : Answer :=
  live dt s fun s => s.request 0x30 0 req fun s =>
    if s.resetOutcome = .ok then ((s.acceptReset .service).respond 0x30 .ok []).finish
    else s.respond 0x30 s.resetOutcome []

/-- R114, step 1: a STUCK damper is given a state from its limits. -/
def State.settleStuck (s : State) (d : DamperId) : State :=
  if (s.damper d).fitted = true ∧ (s.damper d).state = .stuck then s.settleByLimits d else s

/-- R97: a fan FAULTED returns to STOPPED. -/
def State.returnFan (s : State) (f : Fan) : State :=
  if (s.fan f).state = .faulted then
    s.setFan f { s.fan f with state := .stopped, cause := none, claim := .none, low := 0 }
  else s

/-- R88, R89, R97: n_av may have changed from `before`. -/
def State.availabilityFrom (s : State) (before : Nat) : State :=
  if s.availableCount = before then s else s.fmaxChanged.stage

/-- R97, R106, R114, step 2: the fans are returned and judged. -/
def State.returnFans (s : State) : State :=
  ((((s.returnFan .A).returnFan .B).noticeFanFault s.fanFault).availabilityFrom s.availableCount)

/-- R96, R114: an extract damper that settled STUCK again is handed to its fan as becoming STUCK. -/
def State.stickAgain (s : State) (f : Fan) : State :=
  if (s.damper (.ed f)).state = .stuck then s.faultFan f .damper else s

/-- R140: the latch of DUPLICATE_ORIGIN is cleared. -/
def State.clearDuplicate (s : State) : State := { s with rx := { s.rx with duplicate := false } }

/-- R97, R114, R140: CLEAR FAULTS, but for the effective commands that the event applies at its end (R114, step 3). The
fans whose dampers stick again become FAULTED after the judgement of step 2 (log entry 17). -/
def State.clearAll (s : State) : State :=
  let s1 := (DamperId.all.foldl State.settleStuck s).returnFans
  ((s1.stickAgain .A).stickAgain .B).clearDuplicate

/-- CLEAR_FAULTS (R97, R114, R140). -/
def execClearFaults (dt : Tu) (req : Request) (s : State) : Answer :=
  live dt s fun s => s.request 0x31 0 req fun s => (s.clearAll.respond 0x31 .ok []).finish

end Sys2Proof.Machine
end

