-- ==== Sys2Proof/Machine/Startup.lean ====
section
/-! DEFINITION. Reset, reset release and the hold line (R72, R118, R174), and what the Fan and Damper Controllers take
from a record (R87, R104, R108). -/

namespace Sys2Proof.Machine

/-- R87, R104: the proving window counter, pulse count and judge mark of a fan as the record in force loads them. -/
def State.loadWindow (s : State) (f : Fan) : State :=
  s.setFan f { s.fan f with
    window := if s.fanFitted f then some s.cfg.provingWindow else none
    pulses := 0
    judge := false }

/-- R108: the record in force fits a damper. -/
def State.fits (s : State) : DamperId → Bool
  | .ed .A => s.recordValid
  | .ed .B => s.recordValid && decide (s.cfg.fanCount = 2)
  | .td k => s.recordValid && s.cfg.fitted.get k

/-- R108, R110: a damper is judged against the record in force. -/
def State.judgeDamper (s : State) (d : DamperId) : State :=
  if s.fits d then
    if (s.damper d).fitted then s
    else (s.setDamper d { s.damper d with fitted := true }).settleDamper d
  else s.moveDamper d DamperUnit.unfitted

/-- R108: every damper is judged, in the order of their numbers. -/
def State.judgeDampers (s : State) : State := DamperId.all.foldl State.judgeDamper s

/-- R174: every block at its reset values. The record stays stored, the levels on the input lines are the outside's,
and the commands that wait go on waiting. -/
def State.afterReset (s : State) : State :=
  let s1 := { State.reset with
    pins := s.pins
    store := { bytes := s.store.bytes, record := judgeRecord s.store.bytes, writing := none }
    pending := s.pending }
  (s1.loadWindow .A).loadWindow .B

/-- HARDWARE_RESET (R174). -/
def execHardwareReset (s : State) : Answer := .next s.afterReset

/-- R53: an input that is active at reset release starts a run then. -/
def State.runAtRelease (s : State) (i : InputId) : Option Tu := if s.pins.raw.get i then some s.tu else none

/-- R174: what the release samples and starts, before the dampers are settled and the mode is set. -/
def State.releaseStart (s : State) (strap hold : Bool) : State :=
  let s1 := { s with
    released := true
    pins := { s.pins with strap := strap, hold := hold }
    line := { s.line with rate := if strap then .r115200 else .r38400, state := .receiving }
    rx := { s.rx with asm := .skipping }
    store := { s.store with record := judgeRecord s.store.bytes }
    fume := { s.fume with sampleExpiry := tuAfter s.tu Config.sampleTu }
    monitor := { s.monitor with run :=
      { points := ⟨s.runAtRelease (.point .i0), s.runAtRelease (.point .i1), s.runAtRelease (.point .i2),
                   s.runAtRelease (.point .i3)⟩,
        key := s.runAtRelease .key } } }
  (s1.loadWindow .A).loadWindow .B

/-- R72: HOLD is left when the hold line is inactive, the record valid and no record write in progress. -/
def State.mayLeaveHold (s : State) : Bool :=
  decide (s.zone.mode = .hold) && !s.pins.hold && s.recordValid && s.store.writing.isNone

/-- R72: the release condition judged. -/
def State.tryLeaveHold (s : State) : State := if s.mayLeaveHold then s.leaveHold else s

/-- RESET_RELEASE (R174). A release of a part that is not in reset is none. -/
def execResetRelease (strap hold : Bool) (s : State) : Answer :=
  if s.released then .next s
  else .next (s.releaseStart strap hold).judgeDampers.tryLeaveHold.finish

/-- The level of the hold line. -/
def State.setHold (s : State) (active : Bool) : State := { s with pins := { s.pins with hold := active } }

/-- HOLD_LINE_CHANGE (R72). In reset the level alone changes. -/
def execHoldLineChange (dt : Tu) (active : Bool) (s : State) : Answer :=
  if s.released then
    if ((s.elapse dt).setHold active).mayLeaveHold then .next ((s.elapse dt).setHold active).leaveHold.finish
    else .next ((s.elapse dt).setHold active)
  else .next (s.setHold active)

end Sys2Proof.Machine
end

