-- ==== Sys2Proof/Machine/RecordStore.lean ====
section
/-! DEFINITION. The Record Store (R171 to R173): loading and reading the record, and what every block takes when a write
completes. -/

namespace Sys2Proof.Machine

/-- R173: the outcome of a LOAD RECORD request of 90 bytes. -/
def State.loadOutcome (s : State) (bytes : List Byte) : Status :=
  if !recordOk bytes then .badArg
  else if s.zone.mode ≠ .hold then .refusedMode
  else .ok

/-- R173: a record write starts; the port stays busy, and its response waits. -/
def State.startWrite (s : State) (bytes : List Byte) : State :=
  { s with store := { s.store with writing := some ⟨bytes, s.tu⟩ }
           port := { s.port with busy := true, response := [] } }

/-- LOAD_RECORD (R173). -/
def execLoadRecord (dt : Tu) (req : Request) (s : State) : Answer :=
  live dt s fun s => s.request 0x40 Config.recordLength req fun s =>
    if s.loadOutcome req.data = .ok then s.startWrite req.data
    else s.respond 0x40 (s.loadOutcome req.data) []

/-- READ_RECORD (R168). -/
def execReadRecord (dt : Tu) (req : Request) (s : State) : Answer :=
  live dt s fun s => s.request 0x41 0 req fun s => s.respond 0x41 .ok s.store.bytes

/-- R173: the new record becomes the stored record. -/
def State.storeRecord (s : State) (w : WriteJob) : State :=
  { s with store := { bytes := w.bytes, record := judgeRecord w.bytes, writing := none } }

/-- R20, R33: the view is emptied, or the emptying is held while it is frozen. -/
def State.emptyViewOrHold (s : State) : State :=
  if s.frozen then { s with view := { s.view with pendingEmpty := true } } else s.emptyView

/-- R87: a fan that the new record leaves not fitted returns to STOPPED. -/
def State.dropUnfitted (s : State) (f : Fan) : State :=
  if s.fanFitted f then s
  else
    let s1 := s.abortClaim f
    (s1.setFan f { s1.fan f with cause := none, backoff := none, rundown := none }).moveFan f .stopped

/-- R87, R88, R104: the Fan Controller takes the new record. -/
def State.takeFans (s : State) : State :=
  let s1 := { s with fans := { s.fans with starts := [] } }
  ((((s1.dropUnfitted .A).dropUnfitted .B).loadWindow .A).loadWindow .B).fmaxChanged.stage

/-- R145: the receive FIFOs are emptied. -/
def State.emptyFifos (s : State) : State := { s with rx := { s.rx with fifoA := [], fifoB := [] } }

/-- R173: every block takes the new record in one event, and HOLD is left if it may be. -/
def State.takeRecord (s : State) (w : WriteJob) : State :=
  ((s.storeRecord w).emptyViewOrHold.requestPass.reinitFume.takeFans.judgeDampers.emptyFifos).tryLeaveHold

/-- RECORD_WRITE_COMPLETE (R173). -/
def execRecordWriteComplete (dt : Tu) (s : State) : Answer :=
  live dt s fun s =>
    match s.store.writing with
    | none => s
    | some w =>
      if reached s.tu (tuAfter w.started Config.shortestJobTu) then
        ((s.takeRecord w).respond 0x40 .ok []).finish
      else s

end Sys2Proof.Machine
end

