-- ==== Sys2Proof/Machine/SharePass.lean ====
section
/-! DEFINITION. The pass of the Share Computer (R28 to R34). -/

namespace Sys2Proof.Machine

/-- R29: an entry is counted. -/
def PeerEntry.counted (e : PeerEntry) : Bool := decide (e.fresh ≠ .lost) || decide (e.cls = .fire)

/-- R29: S_k, with the sampled own record. -/
def classSum (es : List PeerEntry) (p : Sampled) (k : DemandClass) : Nat :=
  ((es.filter fun e => e.counted && decide (e.cls = k)).map PeerEntry.demand).sum
    + (if p.cls = k then p.demand else 0)

/-- R30: the capacity left after a class whose sum is `sum`. -/
def leftAfter (r sum : Nat) : Nat := if sum ≤ r then r - sum else 0

/-- The classes above a class, in descending order. -/
def classesAbove : DemandClass → List DemandClass
  | .fire => []
  | .contain => [.fire]
  | .fume3 => [.fire, .contain]
  | .fume2 => [.fire, .contain, .fume3]
  | .fume1 => [.fire, .contain, .fume3, .fume2]
  | .idle => [.fire, .contain, .fume3, .fume2, .fume1]

/-- R31: R_own, the capacity that reaches the own class. -/
def remainingAt (es : List PeerEntry) (p : Sampled) : Nat :=
  (classesAbove p.cls).foldl (fun r k => leftAfter r (classSum es p k)) p.capacity

/-- R30, R31: what the class walk grants a demand. -/
def walkGrant (demand rOwn sOwn : Nat) : Nat := if sOwn ≤ rOwn then demand else demand * rOwn / sOwn

/-- R32: what the isolated rule grants. -/
def isolatedGrant (p : Sampled) : Nat :=
  if p.cls = .fire then p.demand else min p.demand (p.capacity * p.share / 1000)

/-- R31, R32: the own grant G. -/
def passGrant (es : List PeerEntry) (p : Sampled) : Nat :=
  if p.isolated then isolatedGrant p else walkGrant p.demand (remainingAt es p) (classSum es p p.cls)

/-- R33: the result flag. -/
def resultFlag (demand grant : Nat) : ResultFlag :=
  if demand = 0 then .nil
  else if grant = demand then .full
  else if grant = 0 then .none
  else .short

/-- R34: the setpoint target. -/
def targetFor (grant fmax : Nat) : Nat := if fmax = 0 then 0 else grant * 1000 / fmax

/-- R29 to R34: the results of a pass over the frozen view. -/
def passResults (es : List PeerEntry) (p : Sampled) : Results :=
  { grant := passGrant es p, flag := resultFlag p.demand (passGrant es p), rOwn := remainingAt es p,
    sOwn := classSum es p p.cls, isoRule := p.isolated, t := targetFor (passGrant es p) p.fmax }

/-- R33: the own SHORT flag of a result flag. -/
def ResultFlag.isShort : ResultFlag → Bool
  | .short => true
  | .none => true
  | _ => false

/-- R28, step 1: the results are published together, and a change of the own SHORT flag is told. -/
def State.publish (s : State) (r : Results) : State :=
  let s1 := { s with share := { s.share with results := r, shortFlag := r.flag.isShort } }
  if r.flag.isShort = s.share.shortFlag then s1 else s1.notice

/-- R28, step 2: the new t is handed to the Fan Controller. -/
def State.handTarget (s : State) (t : Nat) : State := State.stage { s with fans := { s.fans with target := t } }

/-- R28, step 3: the view is unfrozen, and a held sweep and a held emptying are taken. -/
def State.unfreeze (s : State) : State :=
  let s1 := { s with share := { s.share with pass := none }
                     view := { s.view with pendingSweep := false } }
  let s2 := if s.view.pendingSweep then s1.sweepNow else s1
  if s.view.pendingEmpty then s2.emptyView else s2

/-- R28, step 4: pass-again joins the requests of the event. -/
def State.gatherAgain (s : State) : State :=
  { s with share := { s.share with requested := s.share.requested || s.share.again, again := false } }

/-- PASS_COMPLETE (R28). -/
def execPassComplete (dt : Tu) (s : State) : Answer :=
  live dt s fun s =>
    match s.share.pass with
    | none => s
    | some p =>
      if reached s.tu (tuAfter p.started Config.shortestJobTu) then
        ((s.publish (passResults s.view.entries p)).handTarget
          (passResults s.view.entries p).t).unfreeze.gatherAgain.finish
      else s

end Sys2Proof.Machine
end

