-- ==== Sys2Proof/Machine/Dispatch.lean ====
section
/-! DEFINITION. One arm for each command of the table: a direct call of its meaning. -/

namespace Sys2Proof.Machine

def exec (i : Instr) (s : State) : Host.Outcome State Fault Refusal :=
  match i with
  | .hardwareReset => Sys2Proof.Machine.execHardwareReset s
  | .resetRelease strap hold => Sys2Proof.Machine.execResetRelease strap hold s
  | .holdLineChange dt active => Sys2Proof.Machine.execHoldLineChange dt active s
  | .rawInputChange dt input active => Sys2Proof.Machine.execRawInputChange dt input active s
  | .activation dt input => Sys2Proof.Machine.execActivation dt input s
  | .deactivation dt input => Sys2Proof.Machine.execDeactivation dt input s
  | .confirmationTimerExpiry dt => Sys2Proof.Machine.execConfirmationTimerExpiry dt s
  | .listenTimerExpiry dt => Sys2Proof.Machine.execListenTimerExpiry dt s
  | .purgeTimerExpiry dt => Sys2Proof.Machine.execPurgeTimerExpiry dt s
  | .sampleEvent dt readings => Sys2Proof.Machine.execSampleEvent dt readings s
  | .sweep dt => Sys2Proof.Machine.execSweep dt s
  | .digestZoneStatus dt => Sys2Proof.Machine.execDigestZoneStatus dt s
  | .digestFireAlarm dt => Sys2Proof.Machine.execDigestFireAlarm dt s
  | .digestFireReset dt => Sys2Proof.Machine.execDigestFireReset dt s
  | .passComplete dt => Sys2Proof.Machine.execPassComplete dt s
  | .setpointStep dt => Sys2Proof.Machine.execSetpointStep dt s
  | .backoffTimerExpiry dt fan => Sys2Proof.Machine.execBackoffTimerExpiry dt fan s
  | .startEntryExpiry dt => Sys2Proof.Machine.execStartEntryExpiry dt s
  | .rundownTimerExpiry dt fan => Sys2Proof.Machine.execRundownTimerExpiry dt fan s
  | .tachPulse dt fan => Sys2Proof.Machine.execTachPulse dt fan s
  | .provingWindowEnd dt fan => Sys2Proof.Machine.execProvingWindowEnd dt fan s
  | .limitChange dt damper limit active => Sys2Proof.Machine.execLimitChange dt damper limit active s
  | .travelTimerExpiry dt damper => Sys2Proof.Machine.execTravelTimerExpiry dt damper s
  | .limitLossTimerExpiry dt damper => Sys2Proof.Machine.execLimitLossTimerExpiry dt damper s
  | .lineIdle idle => Sys2Proof.Machine.execLineIdle idle s
  | .frameStart dt => Sys2Proof.Machine.execFrameStart dt s
  | .contentionLost dt => Sys2Proof.Machine.execContentionLost dt s
  | .bitError dt => Sys2Proof.Machine.execBitError dt s
  | .lineStuckDetected dt => Sys2Proof.Machine.execLineStuckDetected dt s
  | .lineStuckClear dt => Sys2Proof.Machine.execLineStuckClear dt s
  | .frameCondemned dt chars framingError => Sys2Proof.Machine.execFrameCondemned dt chars framingError s
  | .frameArrival dt chars => Sys2Proof.Machine.execFrameArrival dt chars s
  | .heartbeatExpiry dt => Sys2Proof.Machine.execHeartbeatExpiry dt s
  | .spacingTimerExpiry dt => Sys2Proof.Machine.execSpacingTimerExpiry dt s
  | .probeInstant dt => Sys2Proof.Machine.execProbeInstant dt s
  | .serviceTimeout dt chars => Sys2Proof.Machine.execServiceTimeout dt chars s
  | .identify dt req => Sys2Proof.Machine.execIdentify dt req s
  | .readState dt req => Sys2Proof.Machine.execReadState dt req s
  | .readPeer dt req => Sys2Proof.Machine.execReadPeer dt req s
  | .readStarts dt req => Sys2Proof.Machine.execReadStarts dt req s
  | .readPoints dt req live => Sys2Proof.Machine.execReadPoints dt req live s
  | .modifyPoints dt req => Sys2Proof.Machine.execModifyPoints dt req s
  | .releasePoints dt req => Sys2Proof.Machine.execReleasePoints dt req s
  | .fireReset dt req => Sys2Proof.Machine.execFireReset dt req s
  | .clearFaults dt req => Sys2Proof.Machine.execClearFaults dt req s
  | .loadRecord dt req => Sys2Proof.Machine.execLoadRecord dt req s
  | .readRecord dt req => Sys2Proof.Machine.execReadRecord dt req s
  | .recordWriteComplete dt => Sys2Proof.Machine.execRecordWriteComplete dt s
  | .anothersStartBit dt => Sys2Proof.Machine.execAnothersStartBit dt s
  | .responseSent dt => Sys2Proof.Machine.execResponseSent dt s
  | .serviceFramingError dt chars => Sys2Proof.Machine.execServiceFramingError dt chars s
  | .unknownCommand dt code req => Sys2Proof.Machine.execUnknownCommand dt code req s

end Sys2Proof.Machine
end

