-- ==== Sys2Proof/Safety.lean ====
section
/-! DEFINITION. What a safe state of the part is: the laws that the manual says hold between events. Each is stated so
that a step from a state that has it leads to a state that has it. -/

namespace Sys2Proof.Machine

/-- R94, R115: a fan waits for a slot, starts or runs only behind an extract damper that is OPEN. -/
def State.Interlocked (s : State) : Prop :=
  ∀ f, (s.fan f).state = .waitSlot ∨ (s.fan f).state = .starting ∨ (s.fan f).state = .running →
    (s.damper (.ed f)).state = .opened

/-- R107: the timers and the stuck reason of a damper agree with its state, and one that is not fitted rests CLOSED. -/
def DamperUnit.Sound (u : DamperUnit) : Prop :=
  (u.travel.isSome = true ↔ u.state = .opening ∨ u.state = .closing) ∧
  (u.loss.isSome = true → u.state = .opened ∨ u.state = .closed) ∧
  (u.reason.isSome = true ↔ u.state = .stuck) ∧
  (u.fitted = false → u.state = .closed ∧ u.loss = none)

/-- R107: every damper's timers and stuck reason agree with its state. -/
def State.DampersSound (s : State) : Prop := ∀ d, (s.damper d).Sound

/-- R111: a fitted damper that is not STUCK rests at, or travels to, the end that its effective command names. -/
def State.DampersFollow (s : State) : Prop :=
  ∀ d, (s.damper d).fitted = true → (s.damper d).state ≠ .stuck →
    (s.effectiveCommand d = true ↔ (s.damper d).state = .opened ∨ (s.damper d).state = .opening)

/-- R56, R60, R70, R79: the mode, the contain list, the declaration state and evaluation agree. -/
def State.ModeSound (s : State) : Prop :=
  (s.zone.contain ≠ [] → s.zone.mode = .contain ∨ s.zone.mode = .fire) ∧
  (s.zone.mode = .contain → s.zone.contain ≠ []) ∧
  (s.monitor.decl = .declared ↔ s.zone.mode = .fire) ∧
  (s.monitor.evaluation = true ↔ s.zone.mode ≠ .hold) ∧
  (s.zone.mode = .hold → s.monitor.decl = .clear)

/-- R69: the listen timer runs only in LISTEN and the purge timer only in PURGE. R58, R61: the confirmation timer runs
in PRE_ALARM, and a cause stands in DECLARED alone. -/
def State.TimersSound (s : State) : Prop :=
  (s.zone.listen.isSome = true ↔ s.zone.mode = .listen) ∧
  (s.zone.purge.isSome = true ↔ s.zone.mode = .purge) ∧
  (s.monitor.confirm.isSome = true ↔ s.monitor.decl = .preAlarm) ∧
  (s.monitor.cause.isSome = true ↔ s.monitor.decl = .declared)

/-- R164: forces stand in HOLD and NORMAL alone. -/
def State.ForcesSound (s : State) : Prop :=
  s.zone.mode ≠ .hold → s.zone.mode ≠ .normal → s.forces = Forces.clear

/-- The view's entries and the contain list stand in ascending order, each number once (R1, R77). -/
def State.Ordered (s : State) : Prop :=
  s.view.entries.Pairwise (fun a b => a.origin < b.origin) ∧ s.zone.contain.Pairwise (· < ·)

/-- The capacities of the lists and the limits of the counters (R1, R5, R87, R98, R131, R142, R146). -/
def State.Bounded (s : State) : Prop :=
  s.view.entries.length ≤ Config.viewCapacity ∧ s.fans.starts.length ≤ Config.startListCapacity ∧
  s.rx.fifoA.length ≤ Config.fifoACapacity ∧ s.rx.fifoB.length ≤ Config.fifoBCapacity ∧
  s.view.refused ≤ Config.counterMax ∧ s.rx.errors ≤ Config.counterMax ∧ s.rx.lost ≤ Config.counterMax ∧
  s.line.failures ≤ Config.failureLimit ∧ ∀ f, (s.fan f).pulses ≤ Config.counterMax

/-- R172, R174: the record in force is what the stored bytes are judged to be. -/
def State.RecordSound (s : State) : Prop := s.store.record = judgeRecord s.store.bytes

/-- R90: s is 0 while no fan is STARTING or RUNNING. R105: the low-window count and the judge mark stand in RUNNING
alone. -/
def State.FansAtRest (s : State) : Prop :=
  (s.anyTurning = false → s.fans.setpoint = 0) ∧
  ∀ f, (s.fan f).state ≠ .running → (s.fan f).low = 0 ∧ (s.fan f).judge = false

/-- R21, R26, R27: no pass request outlives its event: each is served by the pass in flight or by pass-again. R103, R151:
nor does the mark of a claim that was started in it; the claim is placed at the event's end. -/
def State.RequestsServed (s : State) : Prop := s.share.requested = false ∧ s.fans.begun = PerFan.all false

/-- The laws together. -/
def State.Safe (s : State) : Prop :=
  s.Interlocked ∧ s.DampersSound ∧ s.DampersFollow ∧ s.ModeSound ∧ s.TimersSound ∧ s.ForcesSound ∧ s.Ordered ∧
  s.Bounded ∧ s.RecordSound ∧ s.FansAtRest ∧ s.RequestsServed

/-! ### What the statements suppose -/

/-- R6, R7, R20: the Peer View may take a frame, and no request or claim of an earlier event is open. -/
def State.ReadyToDigest (s : State) : Prop :=
  s.recordValid = true ∧ s.share.pass = none ∧ s.RequestsServed ∧ s.Ordered

/-- R6: `x` is the frame taken next, and taking it leaves the FIFOs at `a` and `b`. -/
def State.TakesNext (s : State) (x : FifoEntry) (a b : List FifoEntry) : Prop :=
  s.rx.fifoA = x :: a ∧ s.rx.fifoB = b ∨ s.rx.fifoA = [] ∧ a = [] ∧ s.rx.fifoB = x :: b

/-- R8: a frame is not earlier than the entry of its origin, if there is one. -/
def State.NotEarlier (s : State) (x : FifoEntry) : Prop :=
  ∀ p ∈ s.view.entries, p.origin = x.origin → (s.tu - x.arrival).toNat ≤ (s.tu - p.last).toNat

/-- R166, R167: the port takes a request with a code and data whose bytes sum to 0. -/
def State.Hears (s : State) (code : Byte) (req : Request) : Prop :=
  s.port.busy = false ∧ s.port.state = .ready ∧ requestSumOk code req = true

/-- R167: the port after a response with a status and data has begun. -/
def State.answering (s : State) (code : Byte) (st : Status) (data : List Byte) : Port :=
  { s.port with state := .ready, chars := [], lastChar := s.tu, busy := true,
                response := responseChars code st data }

/-- R168: a two-byte field of a response stands at a place in its data, high byte first. -/
def holdsWord (data : List Byte) (i n : Nat) : Prop :=
  ∃ hi lo, data[i]? = some hi ∧ data[i + 1]? = some lo ∧ hi.toNat * 256 + lo.toNat = n

/-- R168: a four-byte field of a response stands at a place in its data, highest byte first. -/
def holdsLong (data : List Byte) (i : Nat) (v : Tu) : Prop :=
  ∃ a b c d, data[i]? = some a ∧ data[i + 1]? = some b ∧ data[i + 2]? = some c ∧ data[i + 3]? = some d ∧
    ((a.toNat * 256 + b.toNat) * 256 + c.toNat) * 256 + d.toNat = v.toNat

/-- R102, R151, R152: the Transmit Unit after an ABANDONED claim of a fan has left the slot. `other` is whether the other
fan's request waits, which then enters the slot, and `again` whether the fan stands in WAIT_SLOT and claims anew. -/
def Transmit.afterAbandoned (tx : Transmit) (f : Fan) (other again : Bool) : Transmit :=
  { tx with
    slot := if other then some ⟨f.other, .waiting⟩ else if again then some ⟨f, .waiting⟩ else none
    requests := (PerFan.all false).set f (other && again)
    claimAttempts := 0 }

end Sys2Proof.Machine
end

