-- ==== Sys2Proof/Certificates/Slice0/Obligations.lean ====
section
/-! DEFINITION. The statements for the provers, block by block. In each, `s` is the state in which a command is taken and
`u` that state with the command's time passed; every hypothesis is on them and on the command's operands. That a command
carries the time since the command before is the model's choice (log entry 1), and so are the guards by which a timer's
command waits for its timer (log entry 6). -/

section

open Sys2Proof Sys2Proof.Machine

/-! ### The queue, reset and reset release -/

/-- A step takes the command at the front of the queue and has its meaning's effect, with the rest of the queue. That an
empty queue idles is the model's choice (log entry 1). -/
def Obligations.StepRunsTheFrontCommand : Prop :=
  (∀ (c : Instr) (rest : List Instr) (s : State),
    step { s with pending := c :: rest } = exec c { s with pending := rest }) ∧
  ∀ s : State, s.pending = [] → step s = .next s

/-- Every command answers a next state, in every state and on all its operands, and leaves the queue alone. That none
of them stops in any state is read from the manual (log entries 5 and 12). -/
def Obligations.EveryCommandCompletes : Prop :=
  ∀ (c : Instr) (s : State), ∃ t, exec c s = .next t ∧ t.pending = s.pending

/-- R118, R166, R174: before reset release no command but the two of reset does more than move a level on an input
line. That an event before release has no effect is read from the manual (log entry 12). -/
def Obligations.NothingMovesBeforeRelease : Prop :=
  ∀ (c : Instr) (s : State), s.released = false → c ≠ .hardwareReset →
    (∀ strap hold, c ≠ .resetRelease strap hold) →
    ∃ p, exec c s = .next { s with pins := p } ∧ p.strap = s.pins.strap

/-- The reset values that the chapters give. That the station comes with an erased store is the model's choice (log
entry 2); no value of log entry 15 stands here. -/
def Obligations.ResetValues : Prop :=
  State.reset.tu = 0 ∧
  State.reset.view = { entries := [], refused := 0, pendingSweep := false, pendingEmpty := false } ∧
  State.reset.share.cls = .idle ∧ State.reset.share.demand = 0 ∧ State.reset.share.pass = none ∧
  State.reset.share.again = false ∧ State.reset.share.shortFlag = false ∧
  State.reset.share.results = { grant := 0, flag := .nil, rOwn := 0, sOwn := 0, isoRule := false, t := 0 } ∧
  State.reset.fume.channels = Quad.all { health := .healthy, history := [], holdCount := 0, contribution := 0 } ∧
  State.reset.fume.index = 0 ∧ State.reset.fume.cls = .idle ∧
  State.reset.monitor.filtered = Inputs.all false ∧ State.reset.monitor.latch = Quad.all false ∧
  State.reset.monitor.evaluation = false ∧ State.reset.monitor.decl = .clear ∧
  State.reset.monitor.confirm = none ∧ State.reset.monitor.cause = none ∧
  State.reset.zone = { mode := .hold, contain := [], listen := none, purge := none } ∧
  (∀ f, State.reset.fan f = { state := .stopped, cause := none, claim := .none, backoff := none, rundown := none,
                              window := none, pulses := 0, judge := false, low := 0 }) ∧
  State.reset.fans.staging = 0 ∧ State.reset.fans.target = 0 ∧ State.reset.fans.setpoint = 0 ∧
  State.reset.fans.starts = [] ∧
  (∀ d, State.reset.damper d =
    { fitted := false, state := .closed, travel := none, loss := none, reason := none }) ∧
  State.reset.line.failures = 0 ∧ State.reset.line.isolated = false ∧ State.reset.line.stuck = false ∧
  State.reset.rx = { asm := .skipping, buffer := [], mark := .none, fifoA := [], fifoB := [], errors := 0,
                     lost := 0, duplicate := false } ∧
  State.reset.tx = { onLine := none, urgent := none, slot := none, requests := ⟨false, false⟩, claimAttempts := 0,
                     statusPending := false, changeMark := false, statusAttempts := 0, heartbeat := none,
                     spacing := none, isolatedMark := false, probeOffer := false } ∧
  (∀ d, State.reset.forces.dampers.get d = ⟨false, false⟩) ∧ State.reset.forces.fire = ⟨false, false⟩ ∧
  State.reset.forces.fault = ⟨false, false⟩ ∧
  State.reset.port.state = .ready ∧ State.reset.port.chars = [] ∧ State.reset.port.busy = false ∧
  State.reset.store = { bytes := List.replicate 90 255, record := none, writing := none }

/-- R174: HARDWARE_RESET brings every block to its reset values. The record stays stored and is judged, and the levels on
the input lines stay the outside's (log entries 2 and 15). R87: the proving window counters start from the stored
record's window. -/
def Obligations.HardwareResetRestores : Prop :=
  ∀ (s : State) (r : Record), (judgeRecord s.store.bytes).getD Record.absent = r →
    exec .hardwareReset s = .next
      { State.reset with
        pins := s.pins
        store := { bytes := s.store.bytes, record := judgeRecord s.store.bytes, writing := none }
        fans := { State.reset.fans with
          units :=
          { a := { FanUnit.initial with window := if 1 ≤ r.fanCount then some r.provingWindow else none }
            b := { FanUnit.initial with window := if 2 ≤ r.fanCount then some r.provingWindow else none } } }
        pending := s.pending }

/-- R37, R53, R72, R108, R110, R118, R174: RESET_RELEASE samples the strap and the hold line, judges the stored record,
starts the sample timer and the filter runs, fits the dampers and settles them from their limits, and sets the mode. Each
damper then answers the effective command that the event leaves, once more at its end (log entries 9 and 32). That a RESET_RELEASE
in a part that is not in reset does nothing is read from the manual (log entry 12). -/
def Obligations.ResetReleaseStarts : Prop :=
  ∀ (s : State) (strap hold : Bool),
    (s.released = true → exec (.resetRelease strap hold) s = .next s) ∧
    (s.released = false → ∃ t, exec (.resetRelease strap hold) s = .next t ∧ t.released = true ∧ t.tu = s.tu ∧
      t.pins = { s.pins with strap := strap, hold := hold } ∧
      t.line = { s.line with rate := if strap then .r115200 else .r38400, state := .receiving } ∧
      t.rx = { s.rx with asm := .skipping } ∧
      t.store = { s.store with record := judgeRecord s.store.bytes } ∧
      t.fume = { s.fume with sampleExpiry := tuAfter s.tu 2500 } ∧
      (∀ i, t.monitor.run.get i = if s.pins.raw.get i then some s.tu else none) ∧
      t.view = s.view ∧ t.port = s.port ∧
      (judgeRecord s.store.bytes = none → ∀ d, t.damper d = DamperUnit.unfitted) ∧
      (∀ (r : Record) (d : DamperId) (l : Limits) (e : Tu), judgeRecord s.store.bytes = some r →
        d = .ed .A ∨ d = .ed .B ∧ r.fanCount = 2 ∨ (∃ k, d = .td k ∧ r.fitted.get k = true) →
        (∀ d', s.damper d' = DamperUnit.unfitted) → (∀ f, (s.fan f).state = .stopped) →
        s.pins.limits.get d = l → tuAfter s.tu (r.travelTimeout * 10000) = e →
        (l.openLimit = true → l.closedLimit = true →
          t.damper d = { fitted := true, state := .stuck, travel := none, loss := none, reason := some .bothLimits } ∧
          ∀ f, d = .ed f → (t.fan f).state = .faulted ∧ (t.fan f).cause = some .damper) ∧
        (¬ (l.openLimit = true ∧ l.closedLimit = true) → t.effectiveCommand d = true →
          t.damper d = { fitted := true, loss := none, reason := none
                         state := if l.openLimit then .opened else .opening
                         travel := if l.openLimit then none else some e }) ∧
        (¬ (l.openLimit = true ∧ l.closedLimit = true) → t.effectiveCommand d = false →
          t.damper d = { fitted := true, loss := none, reason := none
                         state := if l.closedLimit then .closed else .closing
                         travel := if l.closedLimit then none else some e })) ∧
      (s.zone.mode = .hold → s.store.writing = none → (∀ i, s.monitor.filtered.get i = false) →
        t.zone.mode = if hold = false ∧ (judgeRecord s.store.bytes).isSome = true then .listen else .hold))

/-- R56, R61, R62, R72, R73: the hold line going inactive leaves HOLD when the record is valid and no record write is in
progress. Evaluation is turned on and judges the points as they stand: the latches of the active HEAT and MANUAL points are
set, the state becomes DECLARED with the first cause of R61 that applies and the mode FIRE, or PRE_ALARM with its timer, or
stays CLEAR, in LISTEN. Every other change of the hold line changes its level alone. -/
def Obligations.HoldLineLeavesHold : Prop :=
  ∀ (s u : State) (dt : Tu) (active : Bool), s.released = true → s.elapse dt = u →
    (active = false → u.zone.mode = .hold → u.recordValid = true → u.store.writing = none →
      ∃ t, exec (.holdLineChange dt active) s = .next t ∧ t.pins = { u.pins with hold := false } ∧
        (t.zone.mode = .listen ∨ t.zone.mode = .fire) ∧ t.monitor.evaluation = true ∧ t.forces = Forces.clear ∧
        t.zone.contain = u.zone.contain ∧ t.zone.purge = none ∧ t.monitor.filtered = u.monitor.filtered ∧
        (∀ p, t.monitor.latch.get p = true ↔ u.monitor.filtered.get (.point p) = true ∧
          (u.cfg.types.get p = .heat ∨ u.cfg.types.get p = .manual)) ∧
        (∀ on : PointType → Prop,
          (∀ ty, on ty ↔ ∃ p, u.cfg.types.get p = ty ∧ u.monitor.filtered.get (.point p) = true) →
          (∀ c, c = .heat ∧ on .heat ∨ c = .manual ∧ on .manual ∧ ¬ on .heat ∨
              c = .panel ∧ on .panel ∧ ¬ on .heat ∧ ¬ on .manual ∨
              (c = .smokeTwo ∧ 2 ≤ u.smokeCount ∨ c = .smokeConfirmed ∧ u.smokeCount = 1 ∧ u.cfg.confirmTime = 0) ∧
                ¬ on .heat ∧ ¬ on .manual ∧ ¬ on .panel →
            t.monitor.decl = .declared ∧ t.monitor.cause = some c ∧ t.monitor.confirm = none ∧
            t.zone.mode = .fire ∧ t.zone.listen = none ∧ t.share.cls = .fire ∧
            t.tx.urgent = some (.fireAlarm c (u.fmaxEff * u.cfg.fireLevel / 1000))) ∧
          (¬ on .heat → ¬ on .manual → ¬ on .panel → u.smokeCount = 1 → 0 < u.cfg.confirmTime →
            t.monitor.decl = .preAlarm ∧ t.monitor.confirm = some (tuAfter u.tu (u.cfg.confirmTime * 10000)) ∧
            t.zone.mode = .listen ∧ t.tx.urgent = u.tx.urgent) ∧
          (¬ on .heat → ¬ on .manual → ¬ on .panel → ¬ on .smoke → t.monitor.decl = u.monitor.decl ∧
            t.monitor.confirm = u.monitor.confirm ∧ t.zone.mode = .listen ∧ t.tx.urgent = u.tx.urgent)) ∧
        (t.zone.mode = .listen → t.zone.listen = some (tuAfter u.tu (2 * u.cfg.period * 1000))) ∧
        t.tu = u.tu ∧ t.store = u.store ∧ t.view = u.view ∧ t.fume = u.fume ∧ t.line = u.line ∧ t.rx = u.rx ∧
        t.port = u.port) ∧
    (active = true ∨ u.zone.mode ≠ .hold ∨ u.recordValid = false ∨ u.store.writing ≠ none →
      exec (.holdLineChange dt active) s = .next { u with pins := { u.pins with hold := active } })

/-! ### The Fire Point Monitor -/

/-- R53: a raw change starts a filter run at its moment where the input comes to differ from its filtered value, and
cancels the run where it returns to it. -/
def Obligations.RawChangeRunsTheFilter : Prop :=
  ∀ (s u : State) (dt : Tu) (i : InputId) (active : Bool), s.released = true → s.elapse dt = u →
    exec (.rawInputChange dt i active) s = .next
      { u with
        pins := { u.pins with raw := u.pins.raw.set i active }
        monitor := { u.monitor with
          run := u.monitor.run.set i
            (if active = u.monitor.filtered.get i then none else some ((u.monitor.run.get i).getD u.tu)) } }

/-- R53, R55, R57, R59, R62, R74: with evaluation on, the activation of a HEAT, MANUAL or PANEL point declares at once: the
latch of a HEAT or MANUAL point is set, the mode becomes FIRE, every force is dropped, the own class and demand are those
of the fire, and a FIRE_ALARM with the cause and that demand is queued. -/
def Obligations.FirePointDeclares : Prop :=
  ∀ (s u : State) (dt r : Tu) (p : Ix4) (c : FireCause), s.released = true → s.elapse dt = u →
    u.monitor.run.get (.point p) = some r → reached u.tu (tuAfter r 2000) = true →
    u.pins.raw.get (.point p) = true → u.monitor.filtered.get (.point p) = false →
    u.monitor.evaluation = true → u.monitor.decl ≠ .declared →
    (u.cfg.types.get p = .heat ∧ c = .heat ∨ u.cfg.types.get p = .manual ∧ c = .manual ∨
      u.cfg.types.get p = .panel ∧ c = .panel) →
    ∃ t, exec (.activation dt (.point p)) s = .next t ∧
      t.monitor = { u.monitor with
        filtered := u.monitor.filtered.set (.point p) true
        run := u.monitor.run.set (.point p) none
        latch := if c = .panel then u.monitor.latch else u.monitor.latch.set p true
        decl := .declared, cause := some c, confirm := none } ∧
      t.zone = { u.zone with mode := .fire, listen := none, purge := none } ∧ t.forces = Forces.clear ∧
      t.share.cls = .fire ∧ t.share.demand = u.fmaxEff * u.cfg.fireLevel / 1000 ∧
      t.tx.urgent = some (.fireAlarm c (u.fmaxEff * u.cfg.fireLevel / 1000)) ∧
      t.tu = u.tu ∧ t.pins = u.pins ∧ t.store = u.store ∧ t.view = u.view ∧ t.fume = u.fume ∧ t.line = u.line ∧
      t.rx = u.rx ∧ t.port = u.port

/-- R22, R23, R57, R58, R59, R62, R82, R155: the activation of a SMOKE point. The first raises a pre-alarm and starts the
confirmation timer, or declares where T_conf is 0; a second declares SMOKE_TWO. A pre-alarm makes the own class FUME3 in
NORMAL, commands the transfer dampers closed and is a change of the own flags for the next ZONE_STATUS. -/
def Obligations.SmokePointPreAlarms : Prop :=
  ∀ (s u : State) (dt r : Tu) (p : Ix4), s.released = true → s.elapse dt = u →
    u.monitor.run.get (.point p) = some r → reached u.tu (tuAfter r 2000) = true →
    u.pins.raw.get (.point p) = true → u.monitor.filtered.get (.point p) = false →
    u.monitor.evaluation = true → u.cfg.types.get p = .smoke →
    ∃ t, exec (.activation dt (.point p)) s = .next t ∧
      t.monitor.filtered = u.monitor.filtered.set (.point p) true ∧ t.monitor.latch = u.monitor.latch ∧
      t.zone.contain = u.zone.contain ∧ t.view = u.view ∧ t.fume = u.fume ∧ t.line = u.line ∧ t.rx = u.rx ∧
      (u.monitor.decl = .clear → 0 < u.cfg.confirmTime →
        t.monitor.decl = .preAlarm ∧ t.monitor.cause = u.monitor.cause ∧ t.zone = u.zone ∧ t.forces = u.forces ∧
        t.monitor.confirm = some (tuAfter u.tu (u.cfg.confirmTime * 10000)) ∧ t.tx.urgent = u.tx.urgent ∧
        (u.zone.mode = .normal → t.share.cls = .fume3 ∧
          t.share.demand = u.fmaxEff * u.cfg.fume3Level / 1000) ∧
        (∀ k, (u.forces.dampers.get (.td k)).flag = false → t.effectiveCommand (.td k) = false ∧
          ((u.damper (.td k)).fitted = true → (u.damper (.td k)).state ≠ .stuck →
            (t.damper (.td k)).state = .closed ∨ (t.damper (.td k)).state = .closing)) ∧
        (u.zone.mode ≠ .hold → u.zone.mode ≠ .listen → t.tx.changeMark = true ∧
          (u.tx.spacing = none → t.tx.statusPending = true))) ∧
      (u.monitor.decl = .clear → u.cfg.confirmTime = 0 →
        t.monitor.decl = .declared ∧ t.monitor.cause = some .smokeConfirmed ∧ t.monitor.confirm = none ∧
        t.zone.mode = .fire) ∧
      (u.monitor.decl = .preAlarm →
        (∃ q, q ≠ p ∧ u.cfg.types.get q = .smoke ∧ u.monitor.filtered.get (.point q) = true) →
        t.monitor.decl = .declared ∧ t.monitor.cause = some .smokeTwo ∧ t.monitor.confirm = none ∧
        t.zone.mode = .fire)

/-- R57, R59: the deactivation of a point in PRE_ALARM returns the state to CLEAR and stops the timer when it was the last
active SMOKE point, and changes no declaration state otherwise. -/
def Obligations.DeactivationEndsPreAlarm : Prop :=
  ∀ (s u : State) (dt r : Tu) (p : Ix4), s.released = true → s.elapse dt = u →
    u.monitor.run.get (.point p) = some r → reached u.tu (tuAfter r 2000) = true →
    u.pins.raw.get (.point p) = false → u.monitor.filtered.get (.point p) = true →
    ∃ t, exec (.deactivation dt (.point p)) s = .next t ∧
      t.monitor.filtered = u.monitor.filtered.set (.point p) false ∧ t.monitor.latch = u.monitor.latch ∧
      t.monitor.cause = u.monitor.cause ∧ t.zone = u.zone ∧ t.forces = u.forces ∧ t.tx.urgent = u.tx.urgent ∧
      t.view = u.view ∧ t.fume = u.fume ∧ t.line = u.line ∧ t.rx = u.rx ∧ t.port = u.port ∧
      (u.monitor.evaluation = true → u.monitor.decl = .preAlarm → u.cfg.types.get p = .smoke →
        (∀ q, q ≠ p → u.cfg.types.get q = .smoke → u.monitor.filtered.get (.point q) = false) →
        t.monitor.decl = .clear ∧ t.monitor.confirm = none) ∧
      (u.monitor.evaluation = false ∨ u.monitor.decl ≠ .preAlarm ∨ u.cfg.types.get p ≠ .smoke ∨
          (∃ q, q ≠ p ∧ u.cfg.types.get q = .smoke ∧ u.monitor.filtered.get (.point q) = true) →
        t.monitor.decl = u.monitor.decl ∧ t.monitor.confirm = u.monitor.confirm)

/-- R58, R62, R74: the confirmation timer's expiry in PRE_ALARM declares with cause SMOKE_CONFIRMED. -/
def Obligations.ConfirmationDeclares : Prop :=
  ∀ (s u : State) (dt e : Tu), s.released = true → s.elapse dt = u → u.monitor.evaluation = true →
    u.monitor.decl = .preAlarm → u.monitor.confirm = some e → reached u.tu e = true →
    ∃ t, exec (.confirmationTimerExpiry dt) s = .next t ∧
      t.monitor = { u.monitor with decl := .declared, cause := some .smokeConfirmed, confirm := none } ∧
      t.zone = { u.zone with mode := .fire, listen := none, purge := none } ∧ t.forces = Forces.clear ∧
      t.tx.urgent = some (.fireAlarm .smokeConfirmed (u.fmaxEff * u.cfg.fireLevel / 1000)) ∧
      t.pins = u.pins ∧ t.store = u.store ∧ t.view = u.view ∧ t.fume = u.fume ∧ t.line = u.line ∧ t.rx = u.rx ∧
      t.port = u.port

/-- R63, R64, R65, R75: the activation of the fire reset key is a reset request, accepted in mode FIRE when no point is
physically active and ignored otherwise. -/
def Obligations.KeyResetsTheFire : Prop :=
  ∀ (s u : State) (dt r : Tu), s.released = true → s.elapse dt = u →
    u.monitor.run.get .key = some r → reached u.tu (tuAfter r 2000) = true →
    u.pins.raw.get .key = true → u.monitor.filtered.get .key = false →
    ∃ t, exec (.activation dt .key) s = .next t ∧
      t.monitor.filtered = u.monitor.filtered.set .key true ∧ t.zone.contain = u.zone.contain ∧
      t.view = u.view ∧ t.fume = u.fume ∧ t.line = u.line ∧ t.rx = u.rx ∧ t.port = u.port ∧
      (u.zone.mode = .fire → (∀ p, u.physicallyActive p = false) →
        t.monitor.latch = Quad.all false ∧ t.monitor.decl = .clear ∧ t.monitor.cause = none ∧
        t.zone.mode = (if u.zone.contain ≠ [] then .contain else if 0 < u.cfg.purgeTime then .purge else .normal) ∧
        t.zone.purge = (if u.zone.contain = [] ∧ 0 < u.cfg.purgeTime then
          some (tuAfter u.tu (u.cfg.purgeTime * 10000)) else none) ∧
        t.tx.urgent = some (.fireReset .key)) ∧
      (u.zone.mode ≠ .fire ∨ (∃ p, u.physicallyActive p = true) →
        t.monitor = { u.monitor with filtered := u.monitor.filtered.set .key true,
                                     run := u.monitor.run.set .key none } ∧
        t.zone = u.zone ∧ t.forces = u.forces ∧ t.tx.urgent = u.tx.urgent)

/-! ### The Mode Controller -/

/-- R22, R23, R73, R76, R154: the expiry of the listen timer in LISTEN, or of the purge timer in PURGE, makes the mode
NORMAL, with the class and the demand of NORMAL. On leaving LISTEN the heartbeat starts and a status is pending. -/
def Obligations.ListenAndPurgeEndInNormal : Prop :=
  ∀ (s u : State) (dt e : Tu) (c : Instr), s.released = true → s.elapse dt = u → reached u.tu e = true →
    (c = .listenTimerExpiry dt ∧ u.zone.mode = .listen ∧ u.zone.listen = some e ∨
      c = .purgeTimerExpiry dt ∧ u.zone.mode = .purge ∧ u.zone.purge = some e) →
    ∃ t, exec c s = .next t ∧ t.zone = { u.zone with mode := .normal, listen := none, purge := none } ∧
      t.share.cls = (if u.monitor.decl = .preAlarm then .fume3 else u.fume.cls.toDemand) ∧
      t.share.demand = u.fmaxEff * u.cfg.normalLevel t.share.cls / 1000 ∧
      (u.zone.mode = .listen → t.tx.heartbeat = some (tuAfter u.tu (u.cfg.period * 1000)) ∧
        t.tx.statusPending = true) ∧
      (u.zone.mode = .purge → t.tx.heartbeat = u.tx.heartbeat) ∧
      t.monitor = u.monitor ∧ t.forces = u.forces ∧ t.tx.urgent = u.tx.urgent ∧ t.view = u.view ∧
      t.fume = u.fume ∧ t.line = u.line ∧ t.rx = u.rx ∧ t.pins = u.pins ∧ t.store = u.store ∧ t.port = u.port

/-- R22: the demand stage sets the own class from the mode, the fume class and the own declaration state. -/
def Obligations.OwnClassTable : Prop :=
  ∀ s : State, s.recompute.share.cls =
    match s.zone.mode with
    | .hold => .idle
    | .listen => .idle
    | .normal => match s.monitor.decl, s.fume.cls with
      | .preAlarm, _ => .fume3
      | _, .idle => .idle
      | _, .fume1 => .fume1
      | _, .fume2 => .fume2
      | _, .fume3 => .fume3
    | .contain => .contain
    | .fire => .fire
    | .purge => .fume3

/-- R82, R83, R109, R164: in a state that has the laws of the forces, every transfer damper is commanded closed in
CONTAIN and FIRE, whatever its facing index and the pre-alarms, and so is every one in HOLD, and under the own PRE_ALARM in
any mode, that no force holds. Elsewhere a neighbour's pre-alarm closes those that face it, and the others are commanded
open, in LISTEN too, as the table of R82 has it (log entry 29). -/
def Obligations.FireModesCloseTransferDampers : Prop :=
  ∀ (s : State) (k : Ix4), s.ForcesSound →
    (s.zone.mode = .contain ∨ s.zone.mode = .fire → s.effectiveCommand (.td k) = false) ∧
    (s.zone.mode = .hold → (s.forces.dampers.get (.td k)).flag = false → s.effectiveCommand (.td k) = false) ∧
    (s.zone.mode = .listen ∨ s.zone.mode = .normal ∨ s.zone.mode = .purge → s.monitor.decl = .preAlarm →
      (s.forces.dampers.get (.td k)).flag = false → s.effectiveCommand (.td k) = false) ∧
    (s.zone.mode ≠ .hold → s.zone.mode ≠ .contain → s.zone.mode ≠ .fire → s.monitor.decl ≠ .preAlarm →
      (s.damper (.td k)).fitted = true → (s.forces.dampers.get (.td k)).flag = false →
      (s.effectiveCommand (.td k) = false ↔ ∃ h, s.cfg.facing.get k = some h ∧ s.preAlarmHit h = true))

/-- R175: the cause code, and the six causes that drop the FAULT relay. -/
def Obligations.CauseCodeRanksTheCauses : Prop :=
  ∀ s : State,
    let stands : List (Nat × Bool) :=
      [(1, decide (s.zone.mode = .fire)), (2, decide (s.zone.mode = .contain)),
       (3, decide (s.monitor.decl = .preAlarm)), (4, s.line.isolated), (5, s.degraded), (6, s.fanFault),
       (7, s.damperFault), (8, s.sensorFault), (9, s.rx.duplicate), (10, s.share.shortFlag),
       (11, decide (s.zone.mode = .hold ∨ s.zone.mode = .listen))]
    s.causeCode = ((stands.find? fun x => x.2).map Prod.fst).getD 0 ∧
    (s.faultRelayDrive = true ↔ s.zone.mode ≠ .hold ∧ s.line.isolated = false ∧ s.fanFault = false ∧
      s.damperFault = false ∧ s.sensorFault = false ∧ s.rx.duplicate = false ∧ s.store.record.isSome = true)

/-! ### The Fume Monitor -/

/-- R37 to R45: the sample event. Each enabled channel takes its reading, good or faulty, by its health; a channel
that is not enabled keeps its state; F is the greatest contribution of the enabled channels, and the timer goes on by
2500 TU. The raw index of a good reading r is r - 200, clamped to 0-800 as an integer and scaled to 0-1000. The
readings come with the command (log entry 25). -/
def Obligations.SampleEventTakesReadings : Prop :=
  (∀ r : Nat, 180 ≤ r → r ≤ 1010 →
    (rawIndex r : Int) = max 0 (min 800 ((r : Int) - 200)) * 1000 / 800 ∧ rawIndex r ≤ 1000 ∧
    (200 ≤ r → r ≤ 996 → rawIndex (r + 4) = rawIndex r + 5)) ∧
  ∀ (s u : State) (dt : Tu) (x : Quad Reading), s.released = true → s.elapse dt = u →
    reached u.tu u.fume.sampleExpiry = true → u.recordValid = true →
    ∃ t, exec (.sampleEvent dt x) s = .next t ∧ t.fume.sampleExpiry = tuAfter u.fume.sampleExpiry 2500 ∧
      (∀ c, u.cfg.enables.get c = false → t.fume.channels.get c = u.fume.channels.get c) ∧
      (∀ c (h h' : FumeChannel) (r idx : Nat), u.cfg.enables.get c = true → u.fume.channels.get c = h →
        t.fume.channels.get c = h' → (x.get c).val = r → rawIndex r = idx →
        (180 ≤ r → r ≤ 1010 →
          h' = { health := .healthy, holdCount := 0
                 history := if h.health = .healthy ∧ h.history ≠ [] then h.history.tail ++ [idx]
                            else [idx, idx, idx, idx]
                 contribution := min 1000 (h'.history.sum / 4 * u.cfg.gains.get c / 1000) }) ∧
        (r < 180 ∨ 1010 < r →
          h'.history = h.history ∧
          (h.health = .healthy → h'.health = .holding ∧ h'.holdCount = 1 ∧ h'.contribution = h.contribution) ∧
          (h.health = .holding → h.holdCount < 4 →
            h'.health = .holding ∧ h'.holdCount = h.holdCount + 1 ∧ h'.contribution = h.contribution) ∧
          (h.health = .holding → 4 ≤ h.holdCount →
            h'.health = .faulted ∧ h'.holdCount = h.holdCount ∧ h'.contribution = u.cfg.fallback) ∧
          (h.health = .faulted →
            h'.health = .faulted ∧ h'.holdCount = h.holdCount ∧ h'.contribution = u.cfg.fallback))) ∧
      (∀ c, u.cfg.enables.get c = true → (t.fume.channels.get c).contribution ≤ t.fume.index) ∧
      (t.fume.index = 0 ∨ ∃ c, u.cfg.enables.get c = true ∧ (t.fume.channels.get c).contribution = t.fume.index) ∧
      t.zone = u.zone ∧ t.monitor = u.monitor ∧ t.view = u.view ∧ t.fans = u.fans ∧ t.dampers = u.dampers ∧
      t.line = u.line ∧ t.rx = u.rx ∧ t.forces = u.forces ∧ t.port = u.port ∧ t.store = u.store

/-- R46, R47: the fume class after a sample event is the highest class whose upper threshold F reaches, or that is not above
the class before and whose lower threshold F does not fall below. -/
def Obligations.FumeClassHasHysteresis : Prop :=
  ∀ (s u : State) (dt : Tu) (x : Quad Reading), s.released = true → s.elapse dt = u →
    reached u.tu u.fume.sampleExpiry = true → u.recordValid = true →
    u.cfg.fume1.lower < u.cfg.fume1.upper → u.cfg.fume2.lower < u.cfg.fume2.upper →
    u.cfg.fume3.lower < u.cfg.fume3.upper → u.cfg.fume1.upper < u.cfg.fume2.upper →
    u.cfg.fume2.upper < u.cfg.fume3.upper → u.cfg.fume1.lower < u.cfg.fume2.lower →
    u.cfg.fume2.lower < u.cfg.fume3.lower →
    ∃ t, exec (.sampleEvent dt x) s = .next t ∧
      t.fume.cls =
        if u.cfg.fume3.upper ≤ t.fume.index ∨ 3 ≤ u.fume.cls.num ∧ u.cfg.fume3.lower ≤ t.fume.index then .fume3
        else if u.cfg.fume2.upper ≤ t.fume.index ∨ 2 ≤ u.fume.cls.num ∧ u.cfg.fume2.lower ≤ t.fume.index then .fume2
        else if u.cfg.fume1.upper ≤ t.fume.index ∨ 1 ≤ u.fume.cls.num ∧ u.cfg.fume1.lower ≤ t.fume.index then .fume1
        else .idle

/-! ### The Peer View -/

/-- R7, R13, R14, R16: a sweep at a step of the Time Base. With the view frozen it is held pending; otherwise every entry
is aged by its period, and a change of the table starts a pass. -/
def Obligations.SweepAgesTheView : Prop :=
  ∀ (s u : State) (dt : Tu) (es : List PeerEntry), s.released = true → s.elapse dt = u → u.tu.toNat % 1000 = 0 →
    u.recordValid = true → u.share.requested = false →
    u.view.entries.filterMap (fun e =>
      if e.fresh = .lost then some e
      else if 16 * e.period * 1000 < (u.tu - e.last).toNat then
        if e.hit = none then none else some { e with fresh := .lost }
      else if e.fresh = .fresh ∧ 4 * e.period * 1000 < (u.tu - e.last).toNat then some { e with fresh := .stale }
      else some e) = es →
    (u.share.pass ≠ none → exec (.sweep dt) s = .next { u with view := { u.view with pendingSweep := true } }) ∧
    (u.share.pass = none → es = u.view.entries → exec (.sweep dt) s = .next u) ∧
    (u.share.pass = none → es ≠ u.view.entries →
      exec (.sweep dt) s = .next
        { u with
          view := { u.view with entries := es }
          share := { u.share with
            again := false
            pass := some { cls := u.share.cls, demand := u.share.demand, fmax := u.fmaxEff,
                           isolated := u.line.isolated, capacity := u.cfg.capacity, share := u.cfg.isolatedShare,
                           started := u.tu } } })

/-- R2, R3, R4, R6, R10, R16: a ZONE_STATUS in range is digested. Its origin's entry takes every field of the frame and
keeps its hit; an origin without an entry gets one while there is room. A change of the view starts a pass. -/
def Obligations.StatusUpdatesItsEntry : Prop :=
  ∀ (s u : State) (dt : Tu) (ra rb : List FifoEntry) (o : Station) (h : Option FilterIx) (a : Tu) (cls period : Byte)
    (demand : BitVec 16) (flags : PeerFlags), s.released = true → s.elapse dt = u → u.ReadyToDigest →
    u.TakesNext ⟨o, h, a, .zoneStatus cls demand flags period⟩ ra rb →
    u.NotEarlier ⟨o, h, a, .zoneStatus cls demand flags period⟩ →
    cls.toNat ≤ 5 → demand.toNat ≤ 2000 → 5 ≤ period.toNat → period.toNat ≤ 50 →
    ∃ t, exec (.digestZoneStatus dt) s = .next t ∧
      (∀ p n : PeerEntry, p ∈ u.view.entries → p.origin = o → n.cls.num = cls.toNat →
        n = { origin := o, hit := p.hit, cls := n.cls, demand := demand.toNat, flags := flags,
              period := period.toNat, assumed := false, last := a, fresh := .fresh, provisional := false } →
        t.view = { u.view with entries := u.view.entries.map fun e => if e.origin = o then n else e } ∧
        (t.share.pass ≠ none ↔ n.cls ≠ p.cls ∨ n.demand ≠ p.demand ∨ p.fresh ≠ .fresh ∨
          ¬ (t.share.cls = u.share.cls ∧ t.share.demand = u.share.demand))) ∧
      (∀ n : PeerEntry, (∀ e ∈ u.view.entries, e.origin ≠ o) → u.view.entries.length < 24 →
        n.cls.num = cls.toNat →
        n = { origin := o, hit := h, cls := n.cls, demand := demand.toNat, flags := flags,
              period := period.toNat, assumed := false, last := a, fresh := .fresh, provisional := false } →
        (∀ e, e ∈ t.view.entries ↔ e = n ∨ e ∈ u.view.entries) ∧
        t.view.entries.length = u.view.entries.length + 1 ∧ t.view.refused = u.view.refused ∧
        t.share.pass ≠ none) ∧
      t.rx = { u.rx with fifoA := ra, fifoB := rb } ∧ t.tu = u.tu ∧ t.pins = u.pins ∧ t.store = u.store ∧
      t.fume = u.fume ∧ t.monitor = u.monitor ∧ t.line = u.line ∧ t.port = u.port

/-- R2, R4, R11: a FIRE_ALARM in range is digested. Its origin's entry becomes class FIRE with the alarm's demand and keeps
its flags, period and marks; an origin without an entry gets one with the own period, assumed. -/
def Obligations.AlarmMakesAFireEntry : Prop :=
  ∀ (s u : State) (dt : Tu) (ra rb : List FifoEntry) (o : Station) (h : Option FilterIx) (a : Tu)
    (demand : BitVec 16), s.released = true → s.elapse dt = u → u.ReadyToDigest →
    u.TakesNext ⟨o, h, a, .fireAlarm demand⟩ ra rb → u.NotEarlier ⟨o, h, a, .fireAlarm demand⟩ →
    demand.toNat ≤ 2000 →
    ∃ t, exec (.digestFireAlarm dt) s = .next t ∧
      ((∃ p ∈ u.view.entries, p.origin = o) →
        t.view = { u.view with entries := u.view.entries.map fun e => if e.origin = o then
          { e with cls := .fire, demand := demand.toNat, last := a, fresh := .fresh } else e }) ∧
      ((∀ e ∈ u.view.entries, e.origin ≠ o) → u.view.entries.length < 24 →
        (∀ e, e ∈ t.view.entries ↔ e ∈ u.view.entries ∨
          e = { origin := o, hit := h, cls := .fire, demand := demand.toNat, flags := ⟨false, false, false, false⟩,
                period := u.cfg.period, assumed := true, last := a, fresh := .fresh, provisional := false }) ∧
        t.view.entries.length = u.view.entries.length + 1 ∧ t.view.refused = u.view.refused ∧
        t.share.pass ≠ none) ∧
      t.rx = { u.rx with fifoA := ra, fifoB := rb } ∧ t.tu = u.tu ∧ t.pins = u.pins ∧ t.store = u.store ∧
      t.fume = u.fume ∧ t.monitor = u.monitor ∧ t.line = u.line ∧ t.port = u.port

/-- R8, R9, R146: a frame out of range is discarded and counted in RX_ERRORS; a ZONE_STATUS, a FIRE_ALARM or a FIRE_RESET
that is earlier than the entry of its origin has no effect but to leave its FIFO. -/
def Obligations.DiscardedFramesChangeNothing : Prop :=
  ∀ (s u v : State) (dt : Tu) (c : Instr) (x : FifoEntry) (ra rb : List FifoEntry), s.released = true →
    s.elapse dt = u → u.ReadyToDigest → u.DampersFollow → u.TakesNext x ra rb →
    { u with rx := { u.rx with fifoA := ra, fifoB := rb } } = v →
    (∀ cls demand flags period, x.body = .zoneStatus cls demand flags period → c = .digestZoneStatus dt →
      (5 < cls.toNat ∨ 2000 < demand.toNat ∨ period.toNat < 5 ∨ 50 < period.toNat →
        exec c s = .next { v with rx := { v.rx with errors := min 65535 (v.rx.errors + 1) } }) ∧
      (cls.toNat ≤ 5 → demand.toNat ≤ 2000 → 5 ≤ period.toNat → period.toNat ≤ 50 → ¬ u.NotEarlier x →
        exec c s = .next v)) ∧
    (∀ demand, x.body = .fireAlarm demand → c = .digestFireAlarm dt →
      (2000 < demand.toNat →
        exec c s = .next { v with rx := { v.rx with errors := min 65535 (v.rx.errors + 1) } }) ∧
      (demand.toNat ≤ 2000 → ¬ u.NotEarlier x → exec c s = .next v)) ∧
    (x.body = .fireReset → c = .digestFireReset dt → ¬ u.NotEarlier x → exec c s = .next v)

/-- R17, R22, R23, R71, R77, R82, R164: a FIRE_ALARM, or a ZONE_STATUS of class FIRE, from a neighbour puts it on the
contain list. The first one takes LISTEN, NORMAL and PURGE to CONTAIN, with every force dropped and every transfer damper
commanded closed. HOLD keeps no list, and FIRE keeps its mode. -/
def Obligations.NeighbourFireContains : Prop :=
  ∀ (s u : State) (dt : Tu) (c : Instr) (x : FifoEntry) (ra rb : List FifoEntry), s.released = true →
    s.elapse dt = u → u.ReadyToDigest → u.TakesNext x ra rb → u.NotEarlier x →
    ((∃ demand, c = .digestFireAlarm dt ∧ x.body = .fireAlarm demand ∧ demand.toNat ≤ 2000) ∨
      (∃ demand flags period, c = .digestZoneStatus dt ∧ x.body = .zoneStatus 5 demand flags period ∧
        demand.toNat ≤ 2000 ∧ 5 ≤ period.toNat ∧ period.toNat ≤ 50)) →
    ((∃ p ∈ u.view.entries, p.origin = x.origin ∧ p.hit ≠ none) ∨
      (∀ e ∈ u.view.entries, e.origin ≠ x.origin) ∧ u.view.entries.length < 24 ∧ x.hit ≠ none) →
    ∃ t, exec c s = .next t ∧
      (u.zone.mode = .hold → t.zone = u.zone ∧ t.forces = u.forces) ∧
      (u.zone.mode ≠ .hold → ∀ q, q ∈ t.zone.contain ↔ q = x.origin ∨ q ∈ u.zone.contain) ∧
      (u.zone.contain = [] → u.zone.mode = .listen ∨ u.zone.mode = .normal ∨ u.zone.mode = .purge →
        t.zone = { mode := .contain, contain := [x.origin], listen := none, purge := none } ∧
        t.forces = Forces.clear ∧ t.share.cls = .contain ∧
        t.share.demand = u.fmaxEff * u.cfg.containLevel / 1000 ∧ ∀ k, t.effectiveCommand (.td k) = false) ∧
      (u.zone.contain ≠ [] ∨ u.zone.mode = .fire → t.zone.mode = u.zone.mode ∧ t.forces = u.forces) ∧
      t.monitor = u.monitor ∧ t.fume = u.fume ∧ t.tx.urgent = u.tx.urgent ∧ t.line = u.line ∧ t.store = u.store

/-- R12, R17, R22, R23, R71, R78, R79: the end of a neighbour's fire, by a FIRE_RESET or by a ZONE_STATUS of a class other
than FIRE. It takes the origin off the contain list, and when the list empties in CONTAIN the mode becomes NORMAL. A
FIRE_RESET makes its origin's entry FUME3 and provisional. A ZONE_STATUS of a station that is no neighbour leaves the mode
and the list alone. -/
def Obligations.FireResetEndsContainment : Prop :=
  ∀ (s u : State) (dt : Tu) (c : Instr) (x : FifoEntry) (ra rb : List FifoEntry) (status neighbour : Prop),
    s.released = true → s.elapse dt = u → u.ReadyToDigest → u.TakesNext x ra rb → u.NotEarlier x →
    (status ↔ ∃ cls demand flags period, c = .digestZoneStatus dt ∧ x.body = .zoneStatus cls demand flags period ∧
      cls.toNat ≤ 4 ∧ demand.toNat ≤ 2000 ∧ 5 ≤ period.toNat ∧ period.toNat ≤ 50) →
    (neighbour ↔ (∃ p ∈ u.view.entries, p.origin = x.origin ∧ p.hit ≠ none) ∨
      (∀ e ∈ u.view.entries, e.origin ≠ x.origin) ∧ u.view.entries.length < 24 ∧ x.hit ≠ none) →
    (c = .digestFireReset dt ∧ x.body = .fireReset ∨ status ∧ neighbour →
      ∃ t, exec c s = .next t ∧ t.zone.contain = u.zone.contain.filter (· ≠ x.origin) ∧
        (x.origin ∈ u.zone.contain → (∀ q ∈ u.zone.contain, q = x.origin) → u.zone.mode = .contain →
          t.zone.mode = .normal ∧ t.forces = u.forces ∧
          t.share.cls = (if u.monitor.decl = .preAlarm then .fume3 else u.fume.cls.toDemand) ∧
          t.share.demand = u.fmaxEff * u.cfg.normalLevel t.share.cls / 1000) ∧
        (x.origin ∉ u.zone.contain ∨ (∃ q ∈ u.zone.contain, q ≠ x.origin) ∨ u.zone.mode ≠ .contain →
          t.zone.mode = u.zone.mode) ∧
        (x.body = .fireReset → t.view = { u.view with entries := u.view.entries.map fun e => if e.origin = x.origin then
          { e with cls := .fume3, provisional := true, last := x.arrival, fresh := .fresh } else e }) ∧
        t.rx = { u.rx with fifoA := ra, fifoB := rb } ∧ t.monitor = u.monitor ∧ t.fume = u.fume ∧
        t.tx.urgent = u.tx.urgent ∧ t.line = u.line ∧ t.store = u.store ∧ t.port = u.port) ∧
    (status → (∃ p ∈ u.view.entries, p.origin = x.origin ∧ p.hit = none) ∨
        (∀ e ∈ u.view.entries, e.origin ≠ x.origin) ∧ x.hit = none →
      ∃ t, exec c s = .next t ∧ t.zone = u.zone ∧ t.forces = u.forces ∧ t.monitor = u.monitor)

/-- R5, R10, R11: a ZONE_STATUS or a FIRE_ALARM from a station without an entry finds the table full. The candidate is
the non-neighbour entry of lowest class and, within it, of greatest age. A neighbour always evicts it, another station when
the class it would take, FIRE for a FIRE_ALARM, is at least the candidate's; otherwise it is refused and counted. -/
def Obligations.FullViewEvictsTheLowest : Prop :=
  ∀ (s u : State) (dt : Tu) (ra rb : List FifoEntry) (c : Instr) (x : FifoEntry) (n : PeerEntry) (v : PeerEntry),
    s.released = true → s.elapse dt = u → u.ReadyToDigest → u.TakesNext x ra rb →
    ((∃ cls demand flags period, c = .digestZoneStatus dt ∧ x.body = .zoneStatus cls demand flags period ∧
        cls.toNat ≤ 5 ∧ demand.toNat ≤ 2000 ∧ 5 ≤ period.toNat ∧ period.toNat ≤ 50 ∧ n.cls.num = cls.toNat ∧
        n.demand = demand.toNat ∧ n.flags = flags ∧ n.period = period.toNat ∧ n.assumed = false) ∨
      (∃ demand, c = .digestFireAlarm dt ∧ x.body = .fireAlarm demand ∧ demand.toNat ≤ 2000 ∧ n.cls = .fire ∧
        n.demand = demand.toNat ∧ n.flags = ⟨false, false, false, false⟩ ∧ n.period = u.cfg.period ∧
        n.assumed = true)) →
    n.origin = x.origin → n.hit = x.hit → n.last = x.arrival → n.fresh = .fresh → n.provisional = false →
    u.view.entries.length = 24 → (∀ e ∈ u.view.entries, e.origin ≠ x.origin) → v ∈ u.view.entries → v.hit = none →
    (∀ e ∈ u.view.entries, e ≠ v → e.hit = none →
      v.cls.num < e.cls.num ∨ v.cls = e.cls ∧ (u.tu - e.last).toNat < (u.tu - v.last).toNat) →
    ∃ t, exec c s = .next t ∧
      (x.hit ≠ none ∨ v.cls.num ≤ n.cls.num →
        (∀ e, e ∈ t.view.entries ↔ e = n ∨ e ∈ u.view.entries ∧ e ≠ v) ∧
        t.view.entries.length = 24 ∧ t.view.refused = u.view.refused ∧ t.share.pass ≠ none) ∧
      (c = .digestFireAlarm dt → v ∉ t.view.entries) ∧
      (x.hit = none → n.cls.num < v.cls.num →
        t.view = { u.view with refused := min 65535 (u.view.refused + 1) } ∧ t.zone = u.zone ∧ t.share = u.share) ∧
      t.rx = { u.rx with fifoA := ra, fifoB := rb }

/-! ### The Share Computer -/

/-- R7, R14, R16, R20, R28 to R34, R89: the completion of a pass publishes R_own, S_own, G, the result flag and t, hands t
to the Fan Controller, which stages by it, takes what was held, and starts another pass if pass-again is set. A held sweep
ages the entries then, a held emptying empties the table, and a change of the table by either starts the next pass. That C and Q are
those of the pass's start is read from the manual (log entry 8). -/
def Obligations.PassPublishesItsResults : Prop :=
  ∀ (s u : State) (dt : Tu) (p : Sampled) (S : DemandClass → Nat) (es : List PeerEntry), s.released = true →
    s.elapse dt = u →
    u.view.entries.filterMap (fun e =>
      if e.fresh = .lost then some e
      else if 16 * e.period * 1000 < (u.tu - e.last).toNat then
        if e.hit = none then none else some { e with fresh := .lost }
      else if e.fresh = .fresh ∧ 4 * e.period * 1000 < (u.tu - e.last).toNat then some { e with fresh := .stale }
      else some e) = es →
    u.share.pass = some p → u.share.requested = false → reached u.tu (tuAfter p.started 1) = true →
    (∀ k, S k = ((u.view.entries.filter fun e =>
      (decide (e.fresh ≠ .lost) || decide (e.cls = .fire)) && decide (e.cls = k)).map fun e => e.demand).sum +
        (if p.cls = k then p.demand else 0)) →
    ∃ t, exec (.passComplete dt) s = .next t ∧
      t.share.results.sOwn = S p.cls ∧
      t.share.results.rOwn = ([DemandClass.fire, .contain, .fume3, .fume2, .fume1].filter fun k =>
        decide (p.cls.num < k.num)).foldl (fun r k => if S k ≤ r then r - S k else 0) p.capacity ∧
      t.share.results.isoRule = p.isolated ∧
      t.share.results.grant =
        (if p.isolated then if p.cls = .fire then p.demand else min p.demand (p.capacity * p.share / 1000)
        else if t.share.results.sOwn ≤ t.share.results.rOwn then p.demand
        else p.demand * t.share.results.rOwn / t.share.results.sOwn) ∧
      (t.share.results.flag = .nil ↔ p.demand = 0) ∧
      (t.share.results.flag = .full ↔ 0 < p.demand ∧ t.share.results.grant = p.demand) ∧
      (t.share.results.flag = .none ↔ 0 < p.demand ∧ t.share.results.grant = 0) ∧
      (t.share.shortFlag = true ↔ t.share.results.flag = .short ∨ t.share.results.flag = .none) ∧
      t.share.results.t = (if p.fmax = 0 then 0 else t.share.results.grant * 1000 / p.fmax) ∧
      t.fans.target = t.share.results.t ∧
      (u.availableCount = 2 → t.fans.staging =
        if t.fans.target = 0 then 0
        else if 500 ≤ t.fans.target ∨ 401 ≤ t.fans.target ∧ u.fans.staging = 2 then 2 else 1) ∧
      (u.availableCount = 1 → t.fans.staging = if t.fans.target = 0 then 0 else 1) ∧
      (u.availableCount = 0 → t.fans.staging = 0) ∧
      (u.share.again = false → u.view.pendingSweep = false → u.view.pendingEmpty = false →
        t.share.pass = none ∧ t.view = u.view) ∧
      (u.share.again = true → u.recordValid = true → ∃ q, t.share.pass = some q ∧ q.started = u.tu ∧
        q.cls = u.share.cls ∧ q.demand = u.share.demand ∧ t.share.again = false) ∧
      (u.view.pendingSweep = true → u.view.pendingEmpty = false →
        t.view = { u.view with entries := es, pendingSweep := false } ∧
        (es = u.view.entries → u.share.again = false → t.share.pass = none) ∧
        (es ≠ u.view.entries → u.recordValid = true → ∃ q, t.share.pass = some q ∧ q.started = u.tu ∧
          q.cls = u.share.cls ∧ q.demand = u.share.demand ∧ t.share.again = false)) ∧
      (u.view.pendingEmpty = true →
        t.view = { u.view with entries := [], pendingSweep := false, pendingEmpty := false } ∧
        (u.view.entries ≠ [] → u.recordValid = true → ∃ q, t.share.pass = some q ∧ q.started = u.tu)) ∧
      t.view.pendingSweep = false ∧
      t.share.cls = u.share.cls ∧ t.share.demand = u.share.demand ∧ t.zone = u.zone ∧ t.fume = u.fume ∧
      t.monitor = u.monitor ∧ t.forces = u.forces ∧ t.line = u.line ∧ t.rx = u.rx ∧ t.tx.urgent = u.tx.urgent ∧
      t.store = u.store ∧ t.pins = u.pins ∧ t.port = u.port ∧ t.tu = u.tu

/-- R31, R32 and section 2.7: a grant is never above the demand, nor above the capacity under the class walk; and where
the stations of a depot count the same records with the same capacity, their grants sum to no more than it. -/
def Obligations.GrantsFitTheTrunk : Prop :=
  (∀ (es : List PeerEntry) (p : Sampled), passGrant es p ≤ p.demand ∧
    (p.isolated = false → passGrant es p ≤ p.capacity) ∧
    (p.isolated = true → p.cls ≠ .fire → passGrant es p ≤ p.capacity * p.share / 1000)) ∧
  ∀ (C : Nat) (depot : List (List PeerEntry × Sampled)),
    (∀ x ∈ depot, x.2.capacity = C ∧ x.2.isolated = false ∧ (∀ e ∈ x.1, e.fresh ≠ .lost) ∧
      List.Perm ((x.2.cls, x.2.demand) :: x.1.map fun e => (e.cls, e.demand))
        (depot.map fun y => (y.2.cls, y.2.demand))) →
    (depot.map fun x => passGrant x.1 x.2).sum ≤ C

/-! ### The Fan Controller -/

/-- R81, R90, R91: a step of s, at a step of the Time Base while a fan is STARTING or RUNNING; at any other moment, and while
no fan turns, s stands. The run output of a fan follows its state, and its speed output s. -/
def Obligations.SetpointAndSpeedFollowTheTarget : Prop :=
  (∀ (s u : State) (dt : Tu) (d : Nat), s.released = true → s.elapse dt = u →
    (if u.zone.mode = .contain ∨ u.zone.mode = .fire ∨ u.zone.mode = .purge then u.cfg.fire.ramp
      else u.cfg.normal.ramp) / 10 = d →
    (u.tu.toNat % 1000 = 0 → (∃ f, (u.fan f).state = .starting ∨ (u.fan f).state = .running) →
      ∃ x, exec (.setpointStep dt) s = .next { u with fans := { u.fans with setpoint := x } } ∧
        (u.fans.setpoint ≤ u.fans.target + d → u.fans.target ≤ u.fans.setpoint + d → x = u.fans.target) ∧
        (u.fans.setpoint + d < u.fans.target → x = u.fans.setpoint + d) ∧
        (u.fans.target + d < u.fans.setpoint → x + d = u.fans.setpoint)) ∧
    (u.tu.toNat % 1000 ≠ 0 ∨ (∀ f, (u.fan f).state ≠ .starting ∧ (u.fan f).state ≠ .running) →
      exec (.setpointStep dt) s = .next u)) ∧
  ∀ (s : State) (f : Fan) (m : Nat),
    (if s.zone.mode = .contain ∨ s.zone.mode = .fire ∨ s.zone.mode = .purge then s.cfg.fire.minSpeed
      else s.cfg.normal.minSpeed) = m →
    (s.runOutput f = true ↔ (s.fan f).state = .starting ∨ (s.fan f).state = .running) ∧
    (s.runOutput f = true → s.availableCount = 2 → s.runOutput f.other = false →
      s.speedOutput f = max m (min 1000 (2 * s.fans.setpoint))) ∧
    (s.runOutput f = true → s.availableCount ≠ 2 ∨ s.runOutput f.other = true →
      s.speedOutput f = max m s.fans.setpoint) ∧
    (s.runOutput f = false → s.speedOutput f = 0)

/-- R94, R98 to R103, R151: the backoff timer's expiry in WAIT_SLOT starts a new claim. It is handed to the Transmit Unit, into
the slot or the fan's request; while ISOLATED is set it is decided at once by the own list. The head of the Start List
leaves at its expiry: an own entry takes its fan from STARTING to RUNNING, and any other changes nothing else. -/
def Obligations.ClaimTimersAnswer : Prop :=
  (∀ (s u : State) (dt e : Tu) (f : Fan) (x : ClaimEntry) (l : List ClaimEntry), s.released = true →
    s.elapse dt = u → (u.fan f).state = .waitSlot → (u.fan f).claim = .backoff → (u.fan f).backoff = some e →
    reached u.tu e = true →
    x = { origin := u.cfg.station, fan := f, fire := decide (u.zone.mode = .fire), arrival := u.tu,
          expiry := tuAfter u.tu (u.cfg.startWindow * 1000) } →
    u.fans.starts.filter (fun y => !(decide (y.origin = x.origin) && decide (y.fan = f))) = l →
    (u.line.isolated = false →
      exec (.backoffTimerExpiry dt f) s = .next { u with
        fans := { u.fans with units := u.fans.units.set f { u.fan f with claim := .waiting, backoff := none } }
        tx := if u.tx.slot = none then { u.tx with slot := some ⟨f, .waiting⟩, claimAttempts := 0 }
              else { u.tx with requests := u.tx.requests.set f true } }) ∧
    (u.line.isolated = true → l.length < 16 → x.fire = true ∨ l.length < u.cfg.startLimit →
      exec (.backoffTimerExpiry dt f) s = .next { u with fans := { u.fans with
        units := u.fans.units.set f (FanUnit.enter { u.fan f with claim := .none, backoff := none } .starting)
        starts := l ++ [x] } }) ∧
    (u.line.isolated = true → x.fire = false → u.cfg.startLimit ≤ l.length →
      exec (.backoffTimerExpiry dt f) s = .next { u with fans := { u.fans with
        units := u.fans.units.set f
          { u.fan f with backoff := some (tuAfter u.tu (5000 * (1 + u.cfg.station.val % 4))) }
        starts := l } })) ∧
  ∀ (s u : State) (dt : Tu) (e : ClaimEntry) (rest : List ClaimEntry), s.released = true → s.elapse dt = u →
    u.fans.starts = e :: rest → reached u.tu e.expiry = true →
    (e.origin = u.cfg.station → (u.fan e.fan).state = .starting →
      exec (.startEntryExpiry dt) s = .next { u with fans := { u.fans with
        units := u.fans.units.set e.fan { u.fan e.fan with state := .running }, starts := rest } }) ∧
    (e.origin ≠ u.cfg.station ∨ (u.fan e.fan).state ≠ .starting →
      exec (.startEntryExpiry dt) s = .next { u with fans := { u.fans with starts := rest } })

/-- R92, R95, R101: the run-down timer's expiry. A fan that is not needed stops and its damper is commanded closed; a
needed one goes on at once to WAIT_SLOT with a claim started, or to WAIT_DAMPER. -/
def Obligations.RundownEndsInStopped : Prop :=
  ∀ (s u : State) (dt e : Tu) (f : Fan), s.released = true → s.elapse dt = u → u.DampersFollow →
    u.RequestsServed → (u.fan f).state = .rundown → (u.fan f).rundown = some e → reached u.tu e = true →
    (u.fan f).claim = .none →
    ∃ t, exec (.rundownTimerExpiry dt f) s = .next t ∧
      (t.fan f).rundown = none ∧ (t.fan f).low = 0 ∧ (t.fan f).judge = false ∧
      (u.needed f = false → t.fan f = { u.fan f with state := .stopped, rundown := none, judge := false, low := 0 } ∧
        t.ownerCommand (.ed f) = false ∧ t.tx = u.tx ∧ t.fans.starts = u.fans.starts ∧
        t.fan f.other = u.fan f.other) ∧
      (u.needed f = true → (u.damper (.ed f)).state = .opened → u.line.isolated = false → u.tx.slot = none →
        (t.fan f).state = .waitSlot ∧ (t.fan f).claim = .waiting ∧ t.dampers = u.dampers ∧
        t.fan f.other = u.fan f.other ∧ t.tx = { u.tx with slot := some ⟨f, .waiting⟩, claimAttempts := 0 }) ∧
      (u.needed f = true → (u.damper (.ed f)).state ≠ .opened → (u.damper (.ed f)).state ≠ .stuck →
        (t.fan f).state = .waitDamper ∧ (t.fan f).claim = .none ∧ t.dampers = u.dampers ∧ t.tx = u.tx ∧
        t.fan f.other = u.fan f.other ∧ t.ownerCommand (.ed f) = true) ∧
      (∀ d, d ≠ .ed f → t.damper d = u.damper d) ∧ t.share = u.share ∧ t.zone = u.zone ∧ t.monitor = u.monitor ∧
      t.view = u.view ∧ t.line = u.line ∧ t.rx = u.rx ∧ t.forces = u.forces ∧ t.store = u.store

/-- R88, R96, R104, R105: the end of a proving window. A window that is not marked is not judged; a good one clears the
low-window count, a low one raises it, and the third low one in a row makes the fan FAULTED with cause PROVING. A rising
edge of a fan's tachometer input counts one pulse. -/
def Obligations.ProvingWindowIsJudged : Prop :=
  (∀ (s u : State) (dt : Tu) (f : Fan) (j : Bool) (low : Prop) (after : Nat → State), s.released = true →
    s.elapse dt = u → u.DampersFollow → u.RequestsServed → u.fanFitted f = true →
    0 < u.cfg.provingWindow → (u.fan f).window = some 0 → decide ((u.fan f).state = .running) = j →
    (low ↔ (u.fan f).pulses * 1000000 < u.cfg.pulsesFull * u.speedOutput f * u.cfg.provingRatio) →
    (∀ n, after n = { u with
      fans := { u.fans with
        units := u.fans.units.set f
          { u.fan f with window := some u.cfg.provingWindow, pulses := 0, judge := j, low := n } } }) →
    ((u.fan f).judge = false → exec (.provingWindowEnd dt f) s = .next (after (u.fan f).low)) ∧
    ((u.fan f).judge = true → ¬ low → exec (.provingWindowEnd dt f) s = .next (after 0)) ∧
    ((u.fan f).judge = true → low → (u.fan f).low < 2 →
      exec (.provingWindowEnd dt f) s = .next (after ((u.fan f).low + 1))) ∧
    ((u.fan f).judge = true → low → 2 ≤ (u.fan f).low → (u.fan f).state = .running →
      ∃ t, exec (.provingWindowEnd dt f) s = .next t ∧ (t.fan f).state = .faulted ∧
        (t.fan f).cause = some .proving ∧ (t.fan f).low = 0 ∧ (t.fan f).judge = false ∧ (t.fan f).pulses = 0 ∧
        (t.fan f).window = some u.cfg.provingWindow ∧ (t.fan f).rundown = none ∧ (t.fan f).backoff = none ∧
        t.speedOutput f = 0 ∧ t.ownerCommand (.ed f) = false ∧ t.fanFault = true ∧
        t.availableCount + 1 = u.availableCount ∧ t.share.demand = t.demandNow ∧
        (t.share.pass ≠ none ∨ t.share.again = true) ∧ t.zone = u.zone ∧ t.monitor = u.monitor ∧
        t.view = u.view ∧ t.line = u.line ∧ t.rx = u.rx ∧ t.store = u.store)) ∧
  ∀ (s u : State) (dt : Tu) (f : Fan), s.released = true → s.elapse dt = u →
    exec (.tachPulse dt f) s = .next { u with
      pins := { u.pins with tach := u.pins.tach.set f true }
      fans := if u.fanFitted f then
          { u.fans with
            units := u.fans.units.set f { u.fan f with pulses := min 65535 ((u.fan f).pulses + 1) } }
        else u.fans }

/-! ### The Damper Controller -/

/-- R108, R111, R112, R113, R114, R115: a change of a limit of a fitted damper: arrival at the target limit, the loss and
the return of the resting limit, a far limit at a lost rest, both limits at once, and the changes that have no effect. -/
def Obligations.LimitChangeMovesTheDamper : Prop :=
  ∀ (s u v : State) (dt : Tu) (d : DamperId) (w : LimitId) (active : Bool) (l : Limits) (b : DamperUnit)
    (put : DamperUnit → State), s.released = true → s.elapse dt = u → u.DampersFollow →
    u.RequestsServed → (u.pins.limits.get d).get w = !active → (u.pins.limits.get d).set w active = l →
    { u with pins := { u.pins with limits := u.pins.limits.set d l } } = v → u.damper d = b →
    (∀ x, put x = { v with dampers := v.dampers.set d x }) →
    (b.fitted = false ∨ b.state = .stuck → exec (.limitChange dt d w active) s = .next v) ∧
    (b.fitted = true → active = true → l.openLimit = true → l.closedLimit = true → b.state ≠ .stuck →
      ∃ t, exec (.limitChange dt d w active) s = .next t ∧ t.pins = v.pins ∧
        t.damper d = { b with state := .stuck, travel := none, loss := none, reason := some .bothLimits } ∧
        (∀ f, d = .ed f → (u.fan f).state ≠ .faulted →
          (t.fan f).state = .faulted ∧ (t.fan f).cause = some .damper)) ∧
    (b.fitted = true → active = true →
      b.state = .opening ∧ w = .openLimit ∧ l.closedLimit = false ∨
        b.state = .closing ∧ w = .closedLimit ∧ l.openLimit = false →
      ∃ t, exec (.limitChange dt d w active) s = .next t ∧ t.pins = v.pins ∧
        t.damper d = { b with state := if w = .openLimit then .opened else .closed, travel := none, loss := none } ∧
        (∀ f, d = .ed f → w = .openLimit → (u.fan f).state = .waitDamper → (u.fan f).claim = .none →
          u.line.isolated = false → (t.fan f).state = .waitSlot ∧ (t.fan f).claim = .waiting) ∧
        ((∀ f, d = .ed f → w = .openLimit → (u.fan f).state ≠ .waitDamper) → t.fans = u.fans ∧ t.tx = u.tx)) ∧
    (b.fitted = true → b.state = .opened ∧ w = .openLimit ∨ b.state = .closed ∧ w = .closedLimit →
      (active = false → exec (.limitChange dt d w active) s =
        .next (put { b with loss := some (tuAfter u.tu 10000) })) ∧
      (active = true → ¬ (l.openLimit = true ∧ l.closedLimit = true) →
        exec (.limitChange dt d w active) s = .next (put { b with loss := none }))) ∧
    (b.fitted = true → active = true →
      b.state = .opened ∧ w = .closedLimit ∧ l.openLimit = false ∨
        b.state = .closed ∧ w = .openLimit ∧ l.closedLimit = false →
      (∀ k, d = .td k → exec (.limitChange dt d w active) s = .next (put
        { b with state := if w = .closedLimit then .opening else .closing, loss := none
                 travel := some (tuAfter u.tu (u.cfg.travelTimeout * 10000)) })) ∧
      (∀ f, d = .ed f → w = .closedLimit → 0 < u.cfg.runDown →
        (u.fan f).state = .starting ∨ (u.fan f).state = .running →
        ∃ t, exec (.limitChange dt d w active) s = .next t ∧ (t.damper d).state = .opening ∧
          (t.fan f).state = .rundown ∧ (t.fan f).rundown = some (tuAfter u.tu (u.cfg.runDown * 1000)) ∧
          t.speedOutput f = 0)) ∧
    (b.fitted = true → ¬ (l.openLimit = true ∧ l.closedLimit = true) →
      b.state = .opening ∧ (w = .closedLimit ∨ active = false) ∨
        b.state = .closing ∧ (w = .openLimit ∨ active = false) ∨
        active = false ∧ (b.state = .opened ∧ w = .closedLimit ∨ b.state = .closed ∧ w = .openLimit) →
      exec (.limitChange dt d w active) s = .next v)

/-- R96, R111, R112, R115: the expiry of a travel or a limit-loss timer makes the damper STUCK. An extract damper
makes its fan FAULTED; a transfer damper has no effect on the fans or the share. That dampers answer at the end of the
event is the model's reading (log entry 9). -/
def Obligations.DamperTimersStick : Prop :=
  ∀ (s u : State) (dt e : Tu) (d : DamperId) (c : Instr) (r : StuckReason), s.released = true → s.elapse dt = u →
    u.DampersFollow → u.RequestsServed → (u.damper d).fitted = true → reached u.tu e = true →
    (c = .travelTimerExpiry dt d ∧ ((u.damper d).state = .opening ∨ (u.damper d).state = .closing) ∧
        (u.damper d).travel = some e ∧ r = .travel ∨
      c = .limitLossTimerExpiry dt d ∧ ((u.damper d).state = .opened ∨ (u.damper d).state = .closed) ∧
        (u.damper d).loss = some e ∧ r = .limitLoss) →
    ∃ t, exec c s = .next t ∧
      t.damper d = { u.damper d with state := .stuck, travel := none, loss := none, reason := some r } ∧
      t.damperFault = true ∧
      (∀ k, d = .td k → t.fans = u.fans ∧ t.share = u.share ∧ t.tx = u.tx ∧ ∀ d', d' ≠ d → t.damper d' = u.damper d') ∧
      (∀ f, d = .ed f → (u.fan f).state ≠ .faulted →
        (t.fan f).state = .faulted ∧ (t.fan f).cause = some .damper ∧ (t.fan f).rundown = none ∧
        (t.fan f).backoff = none ∧ t.runOutput f = false ∧ t.ownerCommand (.ed f) = false ∧
        (t.share.pass ≠ none ∨ t.share.again = true)) ∧
      t.zone = u.zone ∧ t.monitor = u.monitor ∧ t.view = u.view ∧ t.line = u.line ∧ t.rx = u.rx ∧
      t.forces = u.forces ∧ t.pins = u.pins ∧ t.store = u.store ∧ t.port = u.port

/-! ### The zone line -/

/-- R120, R128, R130, R136, R137: idle, with the start of the recessive run that made it so, and the start bit of another
station. That the line is told by such events, and that LINE_IDLE brings the length of its run, is the model's choice (log
entry 13). -/
def Obligations.IdleAndStartBitsMoveTheAssembly : Prop :=
  ∀ (s u : State) (dt run : Tu) (more : Receiver), s.released = true → s.elapse dt = u →
    { u.rx with errors := min 65535 (u.rx.errors + 1) } = more →
    (u.line.state = .receiving → exec (.lineIdle ⟨dt, run⟩) s = .next { u with
      line := { u.line with state := .idle, clearRun := u.tu - run }
      rx := match u.rx.asm with
        | .skipping => { u.rx with asm := .ready }
        | .ready => u.rx
        | .tail => { u.rx with asm := .ready }
        | .assembling => if u.rx.mark = .failed then { u.rx with asm := .ready, buffer := [] }
                         else { more with asm := .ready, buffer := [] } }) ∧
    (u.line.state ≠ .receiving → exec (.lineIdle ⟨dt, run⟩) s = .next u) ∧
    (u.line.state ≠ .sending → exec (.anothersStartBit dt) s = .next { u with
      line := { u.line with state := .receiving }
      rx := match u.rx.asm with
        | .skipping => u.rx
        | .ready => { u.rx with asm := .assembling, buffer := [], mark := .none }
        | .assembling => u.rx
        | .tail => { more with asm := .skipping } }) ∧
    (u.line.state = .sending → exec (.anothersStartBit dt) s = .next u)

/-- R120, R124, R148, R152, R153, R157, R158: the start of a frame on an open line takes the highest sendable content. A
claim goes on the line with the flag of mode FIRE, a ZONE_STATUS with the own record as it stands; while ISOLATED is set a
standing probe offer alone begins, and in HOLD and LISTEN nothing does. -/
def Obligations.FrameStartTakesTheHighestContent : Prop :=
  ∀ (s u v : State) (dt : Tu) (sent : State) (st : Content), s.released = true → s.elapse dt = u →
    u.line.state = .idle → u.line.stuck = false →
    { u with line := { u.line with state := .sending }
             rx := { u.rx with asm := .assembling, buffer := [], mark := .sending } } = v →
    Content.status u.share.cls u.share.demand ⟨decide (u.monitor.decl = .preAlarm), u.fanFault, u.share.shortFlag,
      u.tx.isolatedMark⟩ u.cfg.period = st →
    { v with tx := { u.tx with changeMark := false, heartbeat := some (tuAfter u.tu (u.cfg.period * 1000)),
                               spacing := some (tuAfter u.tu 1000) } } = sent →
    (u.line.isolated = false → u.zone.mode ≠ .hold → u.zone.mode ≠ .listen →
      (∀ x, u.tx.urgent = some x → exec (.frameStart dt) s = .next { v with
        tx := { u.tx with urgent := none, onLine := some ⟨.urgent x, false⟩ } }) ∧
      (∀ f, u.tx.urgent = none → u.tx.slot = some ⟨f, .waiting⟩ → exec (.frameStart dt) s = .next { v with
        fans := { u.fans with units := u.fans.units.set f { u.fan f with claim := .sending, backoff := none } }
        tx := { u.tx with slot := some ⟨f, .onLine⟩
                          onLine := some ⟨.claim f (decide (u.zone.mode = .fire)), false⟩ } }) ∧
      (u.tx.urgent = none → (∀ f, u.tx.slot ≠ some ⟨f, .waiting⟩) → u.tx.statusPending = true →
        exec (.frameStart dt) s = .next { sent with tx := { sent.tx with onLine := some ⟨st, false⟩ } }) ∧
      (u.tx.urgent = none → (∀ f, u.tx.slot ≠ some ⟨f, .waiting⟩) → u.tx.statusPending = false →
        exec (.frameStart dt) s = .next u)) ∧
    (u.line.isolated = true → u.tx.probeOffer = true →
      (∀ x, u.tx.urgent = some x → exec (.frameStart dt) s = .next { v with
        tx := { u.tx with urgent := none, probeOffer := false, onLine := some ⟨.urgent x, true⟩ } }) ∧
      (u.tx.urgent = none → exec (.frameStart dt) s =
        .next { sent with tx := { sent.tx with probeOffer := false, onLine := some ⟨st, true⟩ } })) ∧
    (u.line.isolated = true ∧ u.tx.probeOffer = false ∨
        u.line.isolated = false ∧ (u.zone.mode = .hold ∨ u.zone.mode = .listen) →
      exec (.frameStart dt) s = .next u)

/-- R102, R125, R137, R150, R151, R152, R156, R158: loss of contention. The content stays pending, unless a newer urgent
content stands or the claim is ABANDONED, and no failure is counted. An ABANDONED claim leaves the slot to the other fan's
request, and a fan in WAIT_SLOT claims anew. Under isolation a claim is decided locally instead (log entry 18). That the
attempt count of an empty slot is 0 is the model's choice (log entry 27). -/
def Obligations.ContentionLossKeepsTheContent : Prop :=
  ∀ (s u v : State) (dt : Tu) (a : Attempt), s.released = true → s.elapse dt = u → u.share.requested = false →
    u.line.state = .sending → u.tx.onLine = some a →
    { u with line := { u.line with state := .receiving }
             rx := { u.rx with mark := .lost }
             tx := { u.tx with onLine := none, probeOffer := u.tx.probeOffer || a.probe } } = v →
    (∀ x, a.content = .urgent x → exec (.contentionLost dt) s =
      .next { v with tx := { v.tx with urgent := some (u.tx.urgent.getD x) } }) ∧
    (a.content.kind = 3 → exec (.contentionLost dt) s = .next v) ∧
    (∀ f fire, a.content = .claim f fire → u.line.isolated = false →
      (u.tx.slot = some ⟨f, .onLine⟩ → exec (.contentionLost dt) s = .next { v with
        fans := { u.fans with units := u.fans.units.set f { u.fan f with claim := .waiting, backoff := none } }
        tx := { v.tx with slot := some ⟨f, .waiting⟩ } }) ∧
      (∀ other again : Bool, u.tx.slot = some ⟨f, .abandoned⟩ → (u.fan f).claim = .abandoned →
        u.tx.requests = (PerFan.all false).set f.other other → decide ((u.fan f).state = .waitSlot) = again →
        exec (.contentionLost dt) s = .next { v with
          fans := { u.fans with
            units := u.fans.units.set f
              { u.fan f with claim := if again then .waiting else .none, backoff := none } }
          tx := v.tx.afterAbandoned f other again })) ∧
    (∀ f fire, a.content = .claim f fire → u.line.isolated = true → ∃ t, exec (.contentionLost dt) s = .next t ∧
      t.tx.slot = none ∧ t.tx.requests = ⟨false, false⟩ ∧ (∀ g, (t.fan g).claim ≠ .waiting) ∧
      ((u.fan f).claim = .abandoned → (u.fan f).state ≠ .waitSlot → (t.fan f).claim = .none) ∧
      t.line = v.line ∧ t.rx = v.rx ∧ t.share = u.share ∧ t.zone = u.zone ∧ t.view = u.view)

/-- R102, R126, R131, R132, R133, R137, R150, R151, R152, R156, R158: a bit error counts one transmit failure. Its content
is offered again, a third failed claim enters BACKOFF and a third failed status is dropped. An ABANDONED claim leaves the
slot to the other fan's request, and a fan in WAIT_SLOT claims anew. The failure that makes the count 16 sets ISOLATED,
requests a pass and decides the claim on the line locally. A probe of an isolated station raises the count to 16 at most,
counts no attempt of STATUS and leaves it pending. That the claim is decided in this event is read from the manual (log
entry 18); that the attempt count of an empty slot is 0 is the model's choice (log entry 27). -/
def Obligations.BitErrorsCountTowardIsolation : Prop :=
  ∀ (s u v : State) (dt : Tu) (a : Attempt), s.released = true → s.elapse dt = u → u.share.requested = false →
    u.line.state = .sending → u.tx.onLine = some a →
    { u with line := { u.line with state := .receiving, failures := min 16 (u.line.failures + 1) }
             rx := { u.rx with mark := .failed }
             tx := { u.tx with onLine := none } } = v →
    (u.line.isolated = true → (∀ f, (u.fan f).claim ≠ .waiting) → u.tx.requests = ⟨false, false⟩ →
      (∀ f, u.tx.slot ≠ some ⟨f, .waiting⟩) →
      (∀ x, a.content = .urgent x → exec (.bitError dt) s =
        .next { v with tx := { v.tx with urgent := some (u.tx.urgent.getD x) } }) ∧
      (a.content.kind = 3 → exec (.bitError dt) s = .next v)) ∧
    (∀ f fire, a.content = .claim f fire → u.line.isolated = true → ∃ t, exec (.bitError dt) s = .next t ∧
      t.tx.slot = none ∧ t.tx.requests = ⟨false, false⟩ ∧ (∀ g, (t.fan g).claim ≠ .waiting) ∧
      ((u.fan f).claim = .abandoned → (u.fan f).state ≠ .waitSlot → (t.fan f).claim = .none) ∧
      t.line = v.line ∧ t.rx = v.rx ∧ t.share = u.share ∧ t.zone = u.zone ∧ t.view = u.view) ∧
    (u.line.isolated = false → u.line.failures < 15 →
      (∀ x, a.content = .urgent x → exec (.bitError dt) s =
        .next { v with tx := { v.tx with urgent := some (u.tx.urgent.getD x) } }) ∧
      (a.content.kind = 3 → a.probe = false → exec (.bitError dt) s =
        .next { v with tx := if u.tx.statusAttempts < 2 then { v.tx with statusAttempts := u.tx.statusAttempts + 1 }
                             else { v.tx with statusPending := false, statusAttempts := 0 } }) ∧
      (∀ f fire, a.content = .claim f fire → u.tx.slot = some ⟨f, .onLine⟩ →
        (u.tx.claimAttempts < 2 → exec (.bitError dt) s = .next { v with
          fans := { u.fans with units := u.fans.units.set f { u.fan f with claim := .waiting, backoff := none } }
          tx := { v.tx with slot := some ⟨f, .waiting⟩, claimAttempts := u.tx.claimAttempts + 1 } }) ∧
        (2 ≤ u.tx.claimAttempts → u.tx.requests = ⟨false, false⟩ → exec (.bitError dt) s = .next { v with
          fans := { u.fans with
            units := u.fans.units.set f { u.fan f with
              claim := .backoff
              backoff := some (tuAfter u.tu (5000 * (1 + u.cfg.station.val % 4))) } }
          tx := { v.tx with slot := none, claimAttempts := 0 } })) ∧
      (∀ f fire, ∀ other again : Bool, a.content = .claim f fire → u.tx.slot = some ⟨f, .abandoned⟩ →
        (u.fan f).claim = .abandoned → u.tx.requests = (PerFan.all false).set f.other other →
        decide ((u.fan f).state = .waitSlot) = again → exec (.bitError dt) s = .next { v with
          fans := { u.fans with
            units := u.fans.units.set f
              { u.fan f with claim := if again then .waiting else .none, backoff := none } }
          tx := v.tx.afterAbandoned f other again })) ∧
    (u.line.isolated = false → u.line.failures = 15 → ∃ t, exec (.bitError dt) s = .next t ∧
      t.line = { u.line with state := .receiving, failures := 16, isolated := true } ∧
      t.rx = { u.rx with mark := .failed } ∧ t.tx.onLine = none ∧ t.tx.requests = ⟨false, false⟩ ∧
      t.tx.statusPending = u.tx.statusPending ∧ t.tx.statusAttempts = u.tx.statusAttempts ∧
      (t.share.pass ≠ none ∨ t.share.again = true) ∧ (∀ f, (t.fan f).claim ≠ .waiting) ∧
      (∀ x, a.content = .urgent x → t.tx.urgent = some (u.tx.urgent.getD x)) ∧
      (∀ f fire, a.content = .claim f fire → (u.fan f).claim = .sending → (u.fan f).state = .waitSlot →
        t.tx.slot = none ∧ ((t.fan f).claim = .backoff ∧ (t.fan f).state = .waitSlot ∨
          (t.fan f).claim = .none ∧ ((t.fan f).state = .starting ∨ (t.fan f).state = .running))) ∧
      (∀ f fire, a.content = .claim f fire → (u.fan f).claim = .abandoned → t.tx.slot = none ∧
        ((u.fan f).state ≠ .waitSlot → (t.fan f).claim = .none)) ∧
      t.zone = u.zone ∧ t.monitor = u.monitor ∧ t.view = u.view ∧ t.dampers = u.dampers ∧ t.forces = u.forces)

/-- R103, R120, R129, R130, R132: a stuck line sets LINE_STUCK and ISOLATED. Where ISOLATED was clear that is the entry to
isolation: a pass is requested and every WAITING claim leaves the Transmit Unit. A line that was IDLE is RECEIVING, so
that it is IDLE again only after its release. LINE_STUCK clears on an IDLE line 10 000 TU after the first recessive sample
of the run that made it IDLE, and ISOLATED stays set. That LINE_IDLE brings the start of that run, and what a stuck line
does to the line state, is the model's choice (log entries 13 and 22). -/
def Obligations.StuckLineIsolates : Prop :=
  ∀ (s u : State) (dt : Tu) (run : Bool), s.released = true → s.elapse dt = u → u.share.requested = false →
    reached u.tu (tuAfter u.line.clearRun 10000) = run →
    (∃ t, exec (.lineStuckDetected dt) s = .next t ∧
      t.line = { u.line with stuck := true, isolated := true
                             state := if u.line.state = .sending then .sending else .receiving } ∧
      (u.line.isolated = true → t = { u with line := t.line }) ∧
      (u.line.isolated = false → (t.share.pass ≠ none ∨ t.share.again = true) ∧
        t.tx.requests = ⟨false, false⟩ ∧ (∀ f, t.tx.slot ≠ some ⟨f, .waiting⟩) ∧ ∀ f, (t.fan f).claim ≠ .waiting) ∧
      t.zone = u.zone ∧ t.view = u.view ∧ t.rx = u.rx ∧ t.dampers = u.dampers ∧ t.tx.urgent = u.tx.urgent) ∧
    (u.line.stuck = true → u.line.state = .idle → run = true →
      exec (.lineStuckClear dt) s = .next { u with line := { u.line with stuck := false } }) ∧
    (u.line.stuck = false ∨ u.line.state ≠ .idle ∨ run = false → exec (.lineStuckClear dt) s = .next u)

/-- R123, R128, R136, R137, R146: a frame that a check condemns is discarded, and counted in RX_ERRORS unless the own
attempt failed; a run of characters after a completed frame costs one count; while the station sends, no frame is
condemned. A whole frame is bad for an identifier above 127, a length that is not its kind's, or a check that does not
agree. The last clause evaluates the check of R123 on the characters "123456789". That a frame which no check condemns
is left alone is the model's reading (log entry 12). -/
def Obligations.CondemnedFramesAreCountedOnce : Prop :=
  (∀ (s u : State) (dt : Tu) (chars : List Byte) (framing : Bool), s.released = true → s.elapse dt = u →
    (framing = true ∨ judgeFrame chars = .bad →
      (u.rx.asm = .assembling → u.rx.mark = .sending → exec (.frameCondemned dt chars framing) s = .next u) ∧
      (u.rx.asm = .assembling → u.rx.mark = .failed → exec (.frameCondemned dt chars framing) s =
        .next { u with rx := { u.rx with asm := .skipping, buffer := [] } }) ∧
      (u.rx.asm = .assembling → u.rx.mark = .none ∨ u.rx.mark = .lost →
        exec (.frameCondemned dt chars framing) s = .next { u with
          rx := { u.rx with asm := .skipping, buffer := [], errors := min 65535 (u.rx.errors + 1) } }) ∧
      (u.rx.asm = .tail → exec (.frameCondemned dt chars framing) s = .next { u with
        rx := { u.rx with asm := .skipping, errors := min 65535 (u.rx.errors + 1) } })) ∧
    (∀ h, judgeFrame chars = .valid h → exec (.frameCondemned dt chars false) s = .next u)) ∧
  ∀ (id len hi lo : Byte) (payload : List Byte), payload.length = len.toNat →
    (judgeFrame (id :: len :: payload ++ [hi, lo]) = .bad ↔
      128 ≤ id.toNat ∨ len.toNat ≠ payloadLength (id.toNat / 32) ∨ crc (id :: len :: payload) ≠ hi ++ lo) ∧
    (∀ h, judgeFrame (id :: len :: payload ++ [hi, lo]) = .valid h → h.origin.val = id.toNat % 32) ∧
    crc [0x31, 0x32, 0x33, 0x34, 0x35, 0x36, 0x37, 0x38, 0x39] = 0x29B1

/-- R99, R101, R102, R127, R133, R138, R139, R150, R151, R152, R156, R158: the station's own frame completes. The failure
count becomes 0, the content is sent, its echo joins no FIFO, a claim's echo decides the claim by the own Start List, and a
probe that completes ends isolation. The echo of an ABANDONED claim is taken into the list and starts no fan; the slot goes
to the other fan's request, and a fan in WAIT_SLOT claims anew. That the buffer takes the whole frame at its end, and that
the attempt count of an empty slot is 0, is the model's choice (log entries 11 and 27). -/
def Obligations.OwnEchoCompletesTheAttempt : Prop :=
  ∀ (s u v : State) (dt : Tu) (a : Attempt) (chars : List Byte), s.released = true → s.elapse dt = u →
    u.share.requested = false → u.rx.asm = .assembling → u.rx.mark = .sending → u.line.state = .sending →
    u.tx.onLine = some a →
    { u with line := { u.line with state := .receiving, failures := 0 }
             rx := { u.rx with asm := .tail, buffer := frameChars u.cfg.station a.content }
             tx := { u.tx with onLine := none } } = v →
    (∀ x, a.content = .urgent x → u.line.isolated = false → exec (.frameArrival dt chars) s = .next v) ∧
    (∀ cls demand flags period, a.content = .status cls demand flags period → u.line.isolated = false →
      exec (.frameArrival dt chars) s = .next { v with
        tx := { v.tx with statusPending := false, statusAttempts := 0
                          isolatedMark := u.tx.isolatedMark && !flags.isolated } }) ∧
    (∀ (f : Fan) (fire : Bool) (x : ClaimEntry) (l : List ClaimEntry), a.content = .claim f fire →
      u.line.isolated = false → (u.fan f).claim = .sending → (u.fan f).state = .waitSlot →
      u.tx.slot = some ⟨f, .onLine⟩ → u.tx.requests = ⟨false, false⟩ →
      x = { origin := u.cfg.station, fan := f, fire := fire, arrival := u.tu,
            expiry := tuAfter u.tu (u.cfg.startWindow * 1000) } →
      u.fans.starts.filter (fun y => !(decide (y.origin = x.origin) && decide (y.fan = f))) = l →
      (l.length < 16 → fire = true ∨ l.length < u.cfg.startLimit →
        exec (.frameArrival dt chars) s = .next { v with
          fans := { u.fans with
            units := u.fans.units.set f (FanUnit.enter { u.fan f with claim := .none, backoff := none } .starting)
            starts := l ++ [x] }
          tx := { v.tx with slot := none, claimAttempts := 0 } }) ∧
      (fire = false → u.cfg.startLimit ≤ l.length →
        exec (.frameArrival dt chars) s = .next { v with
          fans := { u.fans with
            units := u.fans.units.set f { u.fan f with
              claim := .backoff
              backoff := some (tuAfter u.tu (5000 * (1 + u.cfg.station.val % 4))) }
            starts := l }
          tx := { v.tx with slot := none, claimAttempts := 0 } })) ∧
    (∀ (f : Fan) (fire other again : Bool) (x : ClaimEntry) (l : List ClaimEntry), a.content = .claim f fire →
      u.line.isolated = false → (u.fan f).claim = .abandoned → u.tx.slot = some ⟨f, .abandoned⟩ →
      (u.fan f).state ≠ .starting → u.tx.requests = (PerFan.all false).set f.other other →
      decide ((u.fan f).state = .waitSlot) = again →
      x = { origin := u.cfg.station, fan := f, fire := fire, arrival := u.tu,
            expiry := tuAfter u.tu (u.cfg.startWindow * 1000) } →
      u.fans.starts.filter (fun y => !(decide (y.origin = x.origin) && decide (y.fan = f))) = l → l.length < 16 →
      exec (.frameArrival dt chars) s = .next { v with
        fans := { u.fans with
          units := u.fans.units.set f
            { u.fan f with claim := if again then .waiting else .none, backoff := none }
          starts := if fire = true ∨ l.length < u.cfg.startLimit then l ++ [x] else l }
        tx := v.tx.afterAbandoned f other again }) ∧
    (a.probe = true → u.line.isolated = true → a.content.kind ≠ 2 →
      ∃ t, exec (.frameArrival dt chars) s = .next t ∧
        t.line = { u.line with state := .receiving, failures := 0, isolated := false } ∧ t.rx = v.rx ∧
        t.tx.isolatedMark = true ∧ t.tx.probeOffer = false ∧ t.tx.onLine = none ∧
        (t.share.pass ≠ none ∨ t.share.again = true) ∧
        (u.zone.mode ≠ .hold → u.zone.mode ≠ .listen → t.tx.changeMark = true) ∧
        t.fans = u.fans ∧ t.zone = u.zone ∧ t.view = u.view ∧ t.monitor = u.monitor ∧ t.dampers = u.dampers)

/-- R138, R140 to R144, R146: a valid frame of another station arrives. One that bears the own number sets DUPLICATE_ORIGIN
and is discarded; the others join a FIFO with their hit and arrival time, or are lost and counted. A START_CLAIM with a
field out of range is counted, and without a valid record it is discarded. -/
def Obligations.HeardFramesAreRouted : Prop :=
  ∀ (s u v : State) (dt : Tu) (chars : List Byte) (o : Station) (b : HeardBody) (k : FifoBody → FifoEntry),
    s.released = true → s.elapse dt = u → u.share.requested = false → u.rx.asm = .assembling →
    u.rx.mark ≠ .sending → judgeFrame chars = .valid ⟨o, b⟩ →
    { u with rx := { u.rx with asm := .tail, buffer := chars } } = v →
    (∀ x, k x = { origin := o, hit := hitOf u.cfg.filters o, arrival := u.tu, body := x }) →
    (u.recordValid = true → o = u.cfg.station →
      exec (.frameArrival dt chars) s = .next { v with rx := { v.rx with duplicate := true } }) ∧
    (u.recordValid = false ∨ o ≠ u.cfg.station →
      (∀ x, (∃ demand, b = .fireAlarm demand ∧ x = .fireAlarm demand) ∨ b = .fireReset ∧ x = .fireReset →
        exec (.frameArrival dt chars) s = .next { v with
          rx := if u.rx.fifoA.length < 2 then { v.rx with fifoA := u.rx.fifoA ++ [k x] }
                else if u.rx.fifoB.length < 8 then { v.rx with fifoB := u.rx.fifoB ++ [k x] }
                else { v.rx with lost := min 65535 (u.rx.lost + 1) } }) ∧
      (∀ cls demand flags period, b = .zoneStatus cls demand flags period →
        exec (.frameArrival dt chars) s = .next { v with
          rx := if u.rx.fifoB.length < 8 then
              { v.rx with fifoB := u.rx.fifoB ++ [k (.zoneStatus cls demand
                { preAlarm := flags.getLsbD 0, fanFault := flags.getLsbD 1, short := flags.getLsbD 2,
                  isolated := flags.getLsbD 3 } period)] }
            else { v.rx with lost := min 65535 (u.rx.lost + 1) } }) ∧
      (∀ fan fire, b = .startClaim fan fire →
        (u.recordValid = false → exec (.frameArrival dt chars) s = .next v) ∧
        (u.recordValid = true → 1 < fan.toNat ∨ 1 < fire.toNat → exec (.frameArrival dt chars) s =
          .next { v with rx := { v.rx with errors := min 65535 (u.rx.errors + 1) } })))

/-- R98, R99, R100, R144: a heard START_CLAIM is taken into the Start List. An entry of the same origin and fan leaves
first. A fire claim is admitted, another one while fewer than L entries stand; a full list drops its head, which ends
the start window of an own fan. -/
def Obligations.HeardClaimsAreAdmitted : Prop :=
  ∀ (s u v : State) (dt : Tu) (chars : List Byte) (o : Station) (fan fire : Byte) (x : ClaimEntry)
    (l : List ClaimEntry), s.released = true → s.elapse dt = u → u.share.requested = false →
    u.rx.asm = .assembling → u.rx.mark ≠ .sending → judgeFrame chars = .valid ⟨o, .startClaim fan fire⟩ →
    { u with rx := { u.rx with asm := .tail, buffer := chars } } = v →
    u.recordValid = true → o ≠ u.cfg.station → fan.toNat ≤ 1 → fire.toNat ≤ 1 →
    x = { origin := o, fan := if fan.toNat = 0 then .A else .B, fire := decide (fire.toNat = 1), arrival := u.tu,
          expiry := tuAfter u.tu (u.cfg.startWindow * 1000) } →
    u.fans.starts.filter (fun y => !(decide (y.origin = o) && decide (y.fan = x.fan))) = l →
    (fire.toNat = 1 ∨ l.length < u.cfg.startLimit → l.length < 16 →
      exec (.frameArrival dt chars) s = .next { v with fans := { u.fans with starts := l ++ [x] } }) ∧
    (fire.toNat = 0 → u.cfg.startLimit ≤ l.length →
      exec (.frameArrival dt chars) s = .next { v with fans := { u.fans with starts := l } }) ∧
    (∀ e rest, l = e :: rest → fire.toNat = 1 ∨ l.length < u.cfg.startLimit → 16 ≤ l.length →
      ∃ t, exec (.frameArrival dt chars) s = .next t ∧ t.fans.starts = rest ++ [x] ∧
        (∀ f, (t.fan f).state = if e.origin = u.cfg.station ∧ e.fan = f ∧ (u.fan f).state = .starting then
          .running else (u.fan f).state) ∧
        t.rx = v.rx ∧ t.line = v.line ∧ t.tx = u.tx ∧ t.zone = u.zone ∧ t.view = u.view)

/-- R153, R154, R155, R158: the heartbeat makes STATUS pending and requests the periodic pass; the spacing timer's expiry
releases a change that waited; the probe instant of an isolated station makes a probe offer. None is made while a probe is
on the line (log entry 26). -/
def Obligations.StatusScheduleKeepsTime : Prop :=
  ∀ (s u : State) (dt : Tu), s.released = true → s.elapse dt = u → u.share.requested = false →
    (∀ e, u.tx.heartbeat = some e → reached u.tu e = true → ∃ t, exec (.heartbeatExpiry dt) s = .next t ∧
      t.tx = { u.tx with statusPending := true, heartbeat := some (tuAfter u.tu (u.cfg.period * 1000)) } ∧
      (u.share.pass = none → u.recordValid = true → ∃ p, t.share = { u.share with pass := some p, again := false } ∧
        p.cls = u.share.cls ∧ p.demand = u.share.demand ∧ p.fmax = u.fmaxEff ∧ p.isolated = u.line.isolated ∧
        p.started = u.tu) ∧
      (u.share.pass ≠ none ∨ u.recordValid = false → t.share = { u.share with again := true }) ∧
      t = { u with tx := t.tx, share := t.share }) ∧
    (∀ e, u.tx.spacing = some e → reached u.tu e = true → exec (.spacingTimerExpiry dt) s = .next { u with
      tx := { u.tx with spacing := none, statusPending := u.tx.statusPending || u.tx.changeMark } }) ∧
    (u.tu.toNat % 10000 = 250 * u.cfg.station.val → u.line.isolated = true → u.line.stuck = false →
      u.zone.mode ≠ .hold → u.zone.mode ≠ .listen → u.tx.onLine = none →
      exec (.probeInstant dt) s = .next { u with tx := { u.tx with probeOffer := true } }) ∧
    (u.tx.onLine ≠ none → exec (.probeInstant dt) s = .next u) ∧
    (u.tu.toNat % 10000 ≠ 250 * u.cfg.station.val ∨ u.line.isolated = false ∨ u.line.stuck = true ∨
      u.zone.mode = .hold ∨ u.zone.mode = .listen → exec (.probeInstant dt) s = .next u)

/-- R141: the hit of an origin. -/
def Obligations.HitIsTheLowestMatch : Prop :=
  ∀ (fs : List Filter) (o : Station), fs.length ≤ 6 →
    (∀ f : Filter, f.matches o = true ↔
      ∀ b < 5, f.mask.getLsbD b = true → o.val.testBit b = f.value.getLsbD b) ∧
    (∀ i, hitOf fs o = some i ↔ ∃ h : i.val < fs.length, fs[i.val].matches o = true ∧
      ∀ (j : Nat) (hj : j < fs.length), j < i.val → fs[j].matches o = false) ∧
    (hitOf fs o = none ↔ ∀ f ∈ fs, f.matches o = false) ∧ Record.absent.filters = []

/-! ### The Service Port, the Point Space and the Record Store -/

/-- R166, R167: what the port does with a request before any command is judged: characters while it is busy are discarded,
in SKIPPING they are ignored and the silence starts again, a length above 200 starts SKIPPING, a wrong sum answers
BAD_CHECK, a code outside the table UNKNOWN and a wrong length BAD_LENGTH. Every response sums to 0 modulo 256. That READ
POINTS brings the levels of the lines read live (log entry 3), and that a busy port leaves the time of the last character
(log entry 31), are the model's choices. -/
def Obligations.PortJudgesEveryRequest : Prop :=
  (∀ code st data, sumChars (responseChars code st data) = 0) ∧
  ∀ (s u v : State) (dt : Tu) (code : Byte) (n : Nat) (req : Request) (c : Instr),
    s.released = true → s.elapse dt = u →
    ((code, n, c) ∈ [(0x01, 0, Instr.identify dt req), (0x10, 0, .readState dt req), (0x11, 1, .readPeer dt req),
        (0x12, 0, .readStarts dt req), (0x21, 3, .modifyPoints dt req), (0x22, 0, .releasePoints dt req),
        (0x30, 0, .fireReset dt req), (0x31, 0, .clearFaults dt req), (0x40, 90, .loadRecord dt req),
        (0x41, 0, .readRecord dt req)] ∧ v = u ∨
      (∃ x : LiveLines, c = .readPoints dt req x ∧ code = 0x20 ∧ n = 3 ∧
        v = { u with pins := { u.pins with strap := x.strap, tach := ⟨x.tachA, x.tachB⟩ } }) ∨
      c = .unknownCommand dt code req ∧ code ∉ commandCodes ∧ n = req.data.length ∧ v = u) →
    (u.port.busy = true → exec c s = .next v) ∧
    (u.port.busy = false → u.port.state = .skipping → exec c s = .next { v with
      port := { u.port with lastChar := u.tu } }) ∧
    (u.port.busy = false → u.port.state = .ready → 200 < req.data.length → exec c s = .next { v with
      port := { u.port with state := .skipping, chars := [code], lastChar := u.tu } }) ∧
    (u.port.busy = false → u.port.state = .ready → req.data.length ≤ 200 → requestSumOk code req = false →
      exec c s = .next { v with port := u.answering code .badCheck [] }) ∧
    (u.Hears code req → req.data.length ≤ 200 → req.data.length ≠ n →
      exec c s = .next { v with port := u.answering code .badLength [] }) ∧
    (u.Hears code req → req.data.length ≤ 200 → c = .unknownCommand dt code req →
      exec c s = .next { v with port := u.answering code .unknown [] })

/-- R166: a gap of 50 ms discards a partial request of any number of characters, or ends SKIPPING with BAD_LENGTH; a framing
error discards a partial request and is ignored in SKIPPING; the end of a response frees the port. How a command names the
partial request, and the time its last character came, are the model's choice (log entry 14), and so is that a busy port
leaves that time alone (log entry 31). -/
def Obligations.PortRecoversFromPartialRequests : Prop :=
  ∀ (s u : State) (dt : Tu) (code : Byte) (rest : List Byte), s.released = true → s.elapse dt = u →
    (u.port.busy = false → u.port.state = .ready →
      rest = [] ∨ (∃ (len : Byte) (data : List Byte), rest = len :: data ∧ len.toNat ≤ 200 ∧ data.length ≤ len.toNat) →
      exec (.serviceTimeout dt (code :: rest)) s = .next { u with
        port := { u.port with state := .ready, chars := [], lastChar := u.tu - 500 } } ∧
      exec (.serviceFramingError dt (code :: rest)) s = .next { u with
        port := { u.port with state := .ready, chars := [], lastChar := u.tu } }) ∧
    (∀ (len : Byte) (more : List Byte), u.port.busy = false → u.port.state = .ready → rest = len :: more →
      200 < len.toNat →
      exec (.serviceTimeout dt (code :: rest)) s = .next { u with
        port := { u.answering code .badLength [] with lastChar := u.tu - 500 } } ∧
      exec (.serviceFramingError dt (code :: rest)) s = .next { u with
        port := { u.port with state := .skipping, chars := [code], lastChar := u.tu } }) ∧
    (u.port.busy = false → u.port.state = .skipping → u.port.chars = [code] →
      (reached u.tu (tuAfter u.port.lastChar 500) = true → exec (.serviceTimeout dt []) s = .next { u with
        port := { u.answering code .badLength [] with lastChar := u.port.lastChar } }) ∧
      (rest ≠ [] → exec (.serviceTimeout dt rest) s = .next { u with
        port := { u.answering code .badLength [] with lastChar := u.tu - 500 } }) ∧
      exec (.serviceFramingError dt rest) s = .next { u with port := { u.port with lastChar := u.tu } }) ∧
    (u.port.busy = true → exec (.serviceTimeout dt (code :: rest)) s = .next u ∧
      exec (.serviceFramingError dt (code :: rest)) s = .next u) ∧
    (u.port.response ≠ [] →
      exec (.responseSent dt) s = .next { u with port := { u.port with busy := false, response := [] } })

/-- R19, R168, R169, R170: the reads. Each answers OK with its data, or BAD_ARG for an index above 23, and changes nothing
but the port. READ STATE and READ PEER give every field at its place, and READ STARTS every entry from head to tail. That
the bits which R169 and R170 leave unnamed are 0 is the model's choice (log entry 30). -/
def Obligations.ReadsAnswerFromTheState : Prop :=
  ([Mode.hold, .listen, .normal, .contain, .fire, .purge].map Mode.num = [0, 1, 2, 3, 4, 5] ∧
    [ResultFlag.nil, .full, .short, .none].map ResultFlag.num = [0, 1, 2, 3] ∧
    [Declaration.clear, .preAlarm, .declared].map Declaration.num = [0, 1, 2] ∧
    [FanState.stopped, .waitDamper, .waitSlot, .starting, .running, .rundown, .faulted].map FanState.num =
      [0, 1, 2, 3, 4, 5, 6] ∧
    [none, some FanFault.damper, some .proving].map fanFaultNum = [0, 1, 2] ∧
    [DamperState.closed, .opening, .opened, .closing, .stuck].map DamperState.num = [0, 1, 2, 3, 4] ∧
    [none, some StuckReason.travel, some .limitLoss, some .bothLimits].map reasonNum = [0, 1, 2, 3] ∧
    [Freshness.fresh, .stale, .lost].map Freshness.num = [0, 1, 2]) ∧
  ∀ (s u : State) (dt : Tu) (req : Request), s.released = true → s.elapse dt = u →
    (u.Hears 0x01 req → req.data = [] →
      exec (.identify dt req) s = .next { u with port := u.answering 0x01 .ok [0x01, 0xA0, 0x01] }) ∧
    (u.Hears 0x10 req → req.data = [] → u.zone.contain.length ≤ 31 → ∃ data : List Byte,
      exec (.readState dt req) s = .next { u with port := u.answering 0x10 .ok data } ∧
      data.length = 44 + u.zone.contain.length ∧
      (∀ x ∈ [(0, u.zone.mode.num), (1, u.share.cls.num), (6, u.share.results.flag.num), (18, u.fume.cls.num),
          (19, u.monitor.decl.num), (20, (u.monitor.cause.map FireCause.code).getD 255), (21, u.causeCode),
          (22, u.line.failures), (23, (u.fan .A).state.num), (24, fanFaultNum (u.fan .A).cause),
          (27, (u.fan .B).state.num), (28, fanFaultNum (u.fan .B).cause), (43, u.zone.contain.length)],
        data[x.1]? = some (BitVec.ofNat 8 x.2)) ∧
      (∀ x ∈ [(2, u.share.demand), (4, u.share.results.grant), (8, u.share.results.t), (10, u.fans.setpoint),
          (12, u.share.results.rOwn), (14, u.share.results.sOwn), (16, u.fume.index), (25, u.speedOutput .A),
          (29, u.speedOutput .B), (37, u.rx.errors), (39, u.rx.lost), (41, u.view.refused)],
        x.2 < 65536 → holdsWord data x.1 x.2) ∧
      (∃ b, data[7]? = some b ∧ b.getLsbD 0 = u.share.results.isoRule ∧ b.getLsbD 1 = u.degraded ∧
        b.getLsbD 2 = u.line.isolated ∧ b.getLsbD 3 = u.line.stuck ∧
        b.getLsbD 4 = decide (u.line.rate = .r115200) ∧ b.getLsbD 5 = u.recordValid ∧
        b.getLsbD 6 = u.rx.duplicate ∧ b.getLsbD 7 = false) ∧
      (∀ d : DamperId, ∃ b, data[31 + d.num]? = some b ∧ b.toNat % 8 = (u.damper d).state.num ∧
        b.toNat / 8 % 4 = reasonNum (u.damper d).reason ∧ b.getLsbD 5 = false ∧ b.getLsbD 6 = false ∧
        b.getLsbD 7 = (u.damper d).fitted) ∧
      (∀ i, data[44 + i]? = (u.zone.contain[i]?).map fun o => BitVec.ofNat 8 o.val)) ∧
    (∀ i : Byte, u.Hears 0x11 req → req.data = [i] →
      (23 < i.toNat → exec (.readPeer dt req) s = .next { u with port := u.answering 0x11 .badArg [] }) ∧
      (i.toNat ≤ 23 → u.view.entries[i.toNat]? = none →
        exec (.readPeer dt req) s = .next { u with port := u.answering 0x11 .ok [] }) ∧
      (∀ e, i.toNat ≤ 23 → u.view.entries[i.toNat]? = some e → ∃ data : List Byte,
        exec (.readPeer dt req) s = .next { u with port := u.answering 0x11 .ok data } ∧ data.length = 12 ∧
        (∀ x ∈ [(0, e.origin.val), (1, (e.hit.map Fin.val).getD 255), (2, e.cls.num), (6, e.period),
          (11, e.fresh.num)], data[x.1]? = some (BitVec.ofNat 8 x.2)) ∧
        (e.demand < 65536 → holdsWord data 3 e.demand) ∧ holdsLong data 7 e.last ∧
        ∃ b, data[5]? = some b ∧ b.getLsbD 0 = e.flags.preAlarm ∧ b.getLsbD 1 = e.flags.fanFault ∧
          b.getLsbD 2 = e.flags.short ∧ b.getLsbD 3 = e.flags.isolated ∧ b.getLsbD 4 = e.assumed ∧
          b.getLsbD 5 = e.provisional ∧ b.getLsbD 6 = false ∧ b.getLsbD 7 = false)) ∧
    (u.Hears 0x12 req → req.data = [] → u.fans.starts.length ≤ 16 → ∃ data : List Byte,
      exec (.readStarts dt req) s = .next { u with port := u.answering 0x12 .ok data } ∧
      data.length = 1 + 11 * u.fans.starts.length ∧ data[0]? = some (BitVec.ofNat 8 u.fans.starts.length) ∧
      ∀ i e, u.fans.starts[i]? = some e →
        data[1 + 11 * i]? = some (BitVec.ofNat 8 e.origin.val) ∧
        data[2 + 11 * i]? = some (if e.fan = .A then 0 else 1) ∧ data[3 + 11 * i]? = some (if e.fire then 1 else 0) ∧
        holdsLong data (4 + 11 * i) e.arrival ∧ holdsLong data (8 + 11 * i) e.expiry) ∧
    (u.Hears 0x41 req → req.data = [] →
      exec (.readRecord dt req) s = .next { u with port := u.answering 0x41 .ok u.store.bytes })

/-- R161: a READ POINTS request names a base, a signed displacement and a count. That the request brings the levels of the
lines read live is the model's choice (log entry 3). -/
def Obligations.ReadPointsAnswersItsAddresses : Prop :=
  ∀ (s u v : State) (dt : Tu) (req : Request) (x : LiveLines) (base disp count : Byte) (a : Int),
    s.released = true → s.elapse dt = u →
    { u with pins := { u.pins with strap := x.strap, tach := ⟨x.tachA, x.tachB⟩ } } = v →
    u.Hears 0x20 req → req.data = [base, disp, count] → a = base.toNat + disp.toInt →
    (127 < base.toNat ∨ count.toNat = 0 ∨ 16 < count.toNat ∨ a < 0 ∨ 127 < a + count.toNat - 1 →
      exec (.readPoints dt req x) s = .next { v with port := u.answering 0x20 .badArg [] }) ∧
    (base.toNat ≤ 127 → 1 ≤ count.toNat → count.toNat ≤ 16 → 0 ≤ a → a + count.toNat - 1 ≤ 127 →
      ∃ data : List Byte, exec (.readPoints dt req x) s = .next { v with port := u.answering 0x20 .ok data } ∧
        data.length = count.toNat ∧
        ∀ i < count.toNat, data[i]? = some (if v.pointValue (a.toNat + i) then 1 else 0))

/-- R84, R160, R163, R164: what a point reads. The FIRE relay's drive is energised in mode FIRE alone, and entry to
FIRE drops its force. That the outputs are computed is the model's reading (log entry 4). -/
def Obligations.PointsShowTheLines : Prop :=
  ∀ s : State,
    (∀ p : Ix4, s.pointValue p.num = s.monitor.filtered.get (.point p)) ∧
    s.pointValue 4 = s.monitor.filtered.key ∧ s.pointValue 5 = s.pins.hold ∧ s.pointValue 6 = s.pins.strap ∧
    s.pointValue 8 = s.pins.tach.a ∧ s.pointValue 9 = s.pins.tach.b ∧
    (∀ d : DamperId, s.pointValue (16 + 2 * d.num) = (s.pins.limits.get d).openLimit ∧
      s.pointValue (17 + 2 * d.num) = (s.pins.limits.get d).closedLimit ∧
      s.pointValue (72 + d.num) = (if (s.forces.dampers.get d).flag then (s.forces.dampers.get d).value
        else s.ownerCommand d)) ∧
    (∀ c : Ix4, s.pointValue (32 + c.num) = true ↔
      s.cfg.enables.get c = true ∧ (s.fume.channels.get c).health = .faulted) ∧
    s.pointValue 64 = s.runOutput .A ∧ s.pointValue 65 = s.runOutput .B ∧
    s.pointValue 80 = (if s.forces.fire.flag then s.forces.fire.value else s.fireRelayDrive) ∧
    (s.fireRelayDrive = true ↔ s.zone.mode = .fire) ∧ (s.enterMode .fire).pointValue 80 = true ∧
    s.pointValue 81 = (if s.forces.fault.flag then s.forces.fault.value else s.faultRelayDrive) ∧
    (∀ a, a = 7 ∨ 10 ≤ a ∧ a ≤ 15 ∨ 28 ≤ a ∧ a ≤ 31 ∨ 36 ≤ a ∧ a ≤ 63 ∨ 66 ≤ a ∧ a ≤ 71 ∨ a = 78 ∨ a = 79 ∨ 82 ≤ a →
      s.pointValue a = false)

/-- R162, R163, R164: MODIFY POINTS forces every masked point or none, in HOLD and NORMAL, and RELEASE POINTS clears
every force. A damper answers the change of its effective command in the same event. That dampers answer at the end of
the event is the model's reading (log entry 9). -/
def Obligations.ForcesAreSetAndReleased : Prop :=
  ∀ (s u : State) (dt : Tu) (req : Request), s.released = true → s.elapse dt = u →
    (∀ base mask value : Byte, u.Hears 0x21 req → req.data = [base, mask, value] →
      (127 < base.toNat ∨ (∃ i < 8, mask.getLsbD i = true ∧ 127 < base.toNat + i) →
        exec (.modifyPoints dt req) s = .next { u with port := u.answering 0x21 .badArg [] }) ∧
      (base.toNat ≤ 127 → (∀ i < 8, mask.getLsbD i = true → base.toNat + i ≤ 127) →
        (u.zone.mode ≠ .hold → u.zone.mode ≠ .normal →
          exec (.modifyPoints dt req) s = .next { u with port := u.answering 0x21 .refusedMode [] }) ∧
        (u.zone.mode = .hold ∨ u.zone.mode = .normal →
          (∃ i < 8, mask.getLsbD i = true ∧ ¬ (72 ≤ base.toNat + i ∧ base.toNat + i ≤ 77 ∨
            base.toNat + i = 80 ∨ base.toNat + i = 81)) →
          exec (.modifyPoints dt req) s = .next { u with port := u.answering 0x21 .refusedPoint [] })) ∧
      (u.zone.mode = .hold ∨ u.zone.mode = .normal →
        (∀ i < 8, mask.getLsbD i = true → 72 ≤ base.toNat + i ∧ base.toNat + i ≤ 77 ∨
          base.toNat + i = 80 ∨ base.toNat + i = 81) → base.toNat ≤ 127 →
        ∃ t, exec (.modifyPoints dt req) s = .next t ∧ t.port = u.answering 0x21 .ok [] ∧
          (∀ d : DamperId, t.forces.dampers.get d =
            if base.toNat ≤ 72 + d.num ∧ 72 + d.num - base.toNat < 8 ∧
              mask.getLsbD (72 + d.num - base.toNat) = true
            then ⟨true, value.getLsbD (72 + d.num - base.toNat)⟩ else u.forces.dampers.get d) ∧
          t.forces.fire = (if base.toNat ≤ 80 ∧ 80 - base.toNat < 8 ∧ mask.getLsbD (80 - base.toNat) = true
            then ⟨true, value.getLsbD (80 - base.toNat)⟩ else u.forces.fire) ∧
          t.forces.fault = (if base.toNat ≤ 81 ∧ 81 - base.toNat < 8 ∧ mask.getLsbD (81 - base.toNat) = true
            then ⟨true, value.getLsbD (81 - base.toNat)⟩ else u.forces.fault) ∧
          (∀ k, (u.damper (.td k)).fitted = true → (u.damper (.td k)).state ≠ .stuck →
            ((t.damper (.td k)).state = .opened ∨ (t.damper (.td k)).state = .opening ↔
              t.effectiveCommand (.td k) = true)) ∧
          t.zone = u.zone ∧ t.monitor = u.monitor ∧ t.view = u.view ∧
          t.fume = u.fume ∧ t.line = u.line ∧ t.rx = u.rx ∧ t.pins = u.pins ∧ t.store = u.store)) ∧
    (u.Hears 0x22 req → req.data = [] → ∃ t, exec (.releasePoints dt req) s = .next t ∧
      t.port = u.answering 0x22 .ok [] ∧ t.forces = Forces.clear ∧
      (∀ d, t.effectiveCommand d = t.ownerCommand d) ∧
      t.zone = u.zone ∧ t.monitor = u.monitor ∧ t.view = u.view ∧ t.fume = u.fume ∧ t.line = u.line ∧
      t.rx = u.rx ∧ t.pins = u.pins ∧ t.store = u.store)

/-- R63, R64, R65, R75, R167: the service command FIRE RESET. -/
def Obligations.ServiceResetsTheFire : Prop :=
  ∀ (s u : State) (dt : Tu) (req : Request), s.released = true → s.elapse dt = u → u.Hears 0x30 req →
    req.data = [] →
    (u.zone.mode ≠ .fire → exec (.fireReset dt req) s = .next { u with port := u.answering 0x30 .refusedMode [] }) ∧
    (u.zone.mode = .fire → (∃ p, u.cfg.types.get p ≠ .unused ∧ u.monitor.filtered.get (.point p) = true) →
      exec (.fireReset dt req) s = .next { u with port := u.answering 0x30 .refusedActive [] }) ∧
    (u.zone.mode = .fire → (∀ p, u.cfg.types.get p = .unused ∨ u.monitor.filtered.get (.point p) = false) →
      ∃ t, exec (.fireReset dt req) s = .next t ∧ t.port = u.answering 0x30 .ok [] ∧
        t.monitor = { u.monitor with latch := Quad.all false, decl := .clear, cause := none, confirm := none } ∧
        t.tx.urgent = some (.fireReset .service) ∧ t.zone.contain = u.zone.contain ∧
        t.zone.mode = (if u.zone.contain ≠ [] then .contain else if 0 < u.cfg.purgeTime then .purge else .normal) ∧
        (t.zone.mode = .purge → t.share.cls = .fume3 ∧ t.share.demand = u.fmaxEff ∧
          t.zone.purge = some (tuAfter u.tu (u.cfg.purgeTime * 10000))) ∧
        t.view = u.view ∧ t.fume = u.fume ∧ t.line = u.line ∧ t.rx = u.rx ∧ t.pins = u.pins ∧ t.store = u.store)

/-- R88, R96, R97, R106, R110, R114, R140: CLEAR FAULTS. Every fan FAULTED returns, is judged and told of, and one whose
damper has both limits active becomes FAULTED again in the same event; every STUCK damper takes a state from its limits;
DUPLICATE_ORIGIN is cleared. That a fan fails again after that judgement is the model's reading (log entry 17). -/
def Obligations.ClearFaultsReturnsFansAndDampers : Prop :=
  ∀ (s u : State) (dt : Tu) (req : Request) (both : DamperId → Prop), s.released = true → s.elapse dt = u →
    (∀ d, both d ↔ (u.pins.limits.get d).openLimit = true ∧ (u.pins.limits.get d).closedLimit = true) →
    u.Hears 0x31 req → req.data = [] →
    ∃ t, exec (.clearFaults dt req) s = .next t ∧ t.port = u.answering 0x31 .ok [] ∧ t.rx.duplicate = false ∧
      (∀ f, (u.fan f).state = .faulted →
        ((u.damper (.ed f)).state ≠ .stuck ∨ (u.damper (.ed f)).fitted = true ∧ ¬ both (.ed f) →
          (t.fan f).state ≠ .faulted ∧ (t.fan f).cause = none ∧ (t.fan f).low = 0) ∧
        ((u.damper (.ed f)).state = .stuck → both (.ed f) →
          (t.fan f).state = .faulted ∧ (t.fan f).cause = some .damper)) ∧
      (∀ d, (u.damper d).fitted = true → (u.damper d).state = .stuck →
        (both d → (t.damper d).state = .stuck ∧ (t.damper d).reason = some .bothLimits) ∧
        (¬ both d → (t.damper d).state ≠ .stuck ∧ (t.damper d).reason = none)) ∧
      (∀ k, (u.damper (.td k)).fitted = true → (u.damper (.td k)).state = .stuck →
        (u.pins.limits.get (.td k)).openLimit = true → (u.pins.limits.get (.td k)).closedLimit = false →
        (t.damper (.td k)).state = if u.effectiveCommand (.td k) then .opened else .closing) ∧
      (∀ f, (u.fan f).state = .faulted →
        (u.fanFitted f = true → t.share.cls = t.classNow ∧ t.share.demand = t.demandNow ∧
          (t.share.pass ≠ none ∨ t.share.again = true)) ∧
        (u.zone.mode ≠ .hold → u.zone.mode ≠ .listen → t.tx.changeMark = true)) ∧
      t.zone = u.zone ∧ t.monitor = u.monitor ∧ t.forces = u.forces ∧ t.view = u.view ∧ t.fume = u.fume ∧
      t.line = u.line ∧ t.pins = u.pins ∧ t.store = u.store ∧ t.tx.urgent = u.tx.urgent

/-- R20, R50, R87, R104, R108, R131, R140, R145, R159, R172, R173: LOAD RECORD. A record that is not valid answers
BAD_ARG, a mode other than HOLD REFUSED_MODE; otherwise the write begins and the port stays busy without a response.
At its end every block takes the new record in one event, and the response goes out. While the hold line is active the
mode stays HOLD. When the record in force is judged is the model's reading (log entry 16). -/
def Obligations.LoadRecordTakesEffectInOneEvent : Prop :=
  (∀ (s u : State) (dt : Tu) (req : Request), s.released = true → s.elapse dt = u → u.Hears 0x40 req →
    req.data.length = 90 →
    (recordOk req.data = false →
      exec (.loadRecord dt req) s = .next { u with port := u.answering 0x40 .badArg [] }) ∧
    (recordOk req.data = true → u.zone.mode ≠ .hold →
      exec (.loadRecord dt req) s = .next { u with port := u.answering 0x40 .refusedMode [] }) ∧
    (recordOk req.data = true → u.zone.mode = .hold →
      exec (.loadRecord dt req) s = .next { u with
        store := { u.store with writing := some ⟨req.data, u.tu⟩ }
        port := { u.port with lastChar := u.tu, busy := true, response := [] } })) ∧
  ∀ (s u : State) (dt : Tu) (w : WriteJob), s.released = true → s.elapse dt = u → u.store.writing = some w →
    reached u.tu (tuAfter w.started 1) = true →
    ∃ t, exec (.recordWriteComplete dt) s = .next t ∧
      t.store = { bytes := w.bytes, record := judgeRecord w.bytes, writing := none } ∧
      t.port = { u.port with state := .ready, chars := [], busy := true, response := responseChars 0x40 .ok [] } ∧
      (∀ e ∈ t.fans.starts, e.origin = t.cfg.station ∧ e.arrival = u.tu) ∧
      (u.line.isolated = false → t.fans.starts = []) ∧ t.rx = { u.rx with fifoA := [], fifoB := [] } ∧
      (u.share.pass = none → t.view.entries = []) ∧
      (u.share.pass ≠ none → t.view.entries = u.view.entries ∧ t.view.pendingEmpty = true) ∧
      t.fume = { u.fume with channels := Quad.all FumeChannel.initial, index := 0, cls := .idle } ∧
      (t.share.pass ≠ none ∨ t.share.again = true) ∧
      (∀ f, t.fanFitted f = false → (t.fan f).state = .stopped ∧ (t.fan f).cause = none) ∧
      (∀ f, t.fanFitted f = true → (t.fan f).pulses = 0 ∧ (t.fan f).judge = false) ∧
      (∀ d, t.fits d = (t.damper d).fitted) ∧
      (∀ d, t.fits d = false → t.damper d = DamperUnit.unfitted) ∧
      (u.zone.mode = .hold → u.pins.hold = true → t.zone = u.zone ∧ t.forces = u.forces ∧ t.monitor = u.monitor) ∧
      (u.zone.mode = .hold → u.pins.hold = false → t.recordValid = true →
        (t.zone.mode = .listen ∨ t.zone.mode = .fire) ∧ t.monitor.evaluation = true ∧ t.forces = Forces.clear) ∧
      t.line = u.line ∧ t.pins = u.pins ∧ t.tu = u.tu

/-! ### The laws that every command keeps -/

/-- The state at reset has every law. -/
def Obligations.ResetIsSafe : Prop := State.reset.Safe

/-- R94, R115: no command lets a fan wait for a slot, start or run behind an extract damper that is not OPEN. -/
def Obligations.EveryStepKeepsTheInterlock : Prop :=
  ∀ s t : State, s.Interlocked → step s = .next t → t.Interlocked

/-- R56, R58, R60, R61, R69, R79, R164: every step keeps the agreement of the mode with the contain list, the declaration
state, the timers and the forces. -/
def Obligations.EveryStepKeepsTheModeLaws : Prop :=
  ∀ s t : State, s.ModeSound → s.TimersSound → s.ForcesSound → step s = .next t →
    t.ModeSound ∧ t.TimersSound ∧ t.ForcesSound

/-- R107, R111: every step keeps the dampers' timers and reasons, and every fitted damper that is not STUCK at or on its way
to the end that its effective command names. -/
def Obligations.EveryStepKeepsTheDamperLaws : Prop :=
  ∀ s t : State, s.DampersSound → s.DampersFollow → step s = .next t → t.DampersSound ∧ t.DampersFollow

/-- R1, R5, R21, R26, R77, R87, R90, R98, R105, R131, R142, R146, R172: every step keeps the order and the capacities of the
lists, the limits of the counters, the record judged, the fans' rest values and the requests served. -/
def Obligations.EveryStepKeepsTheListLaws : Prop :=
  ∀ s t : State, s.Ordered → s.Bounded → s.RecordSound → s.FansAtRest → s.RequestsServed → step s = .next t →
    t.Ordered ∧ t.Bounded ∧ t.RecordSound ∧ t.FansAtRest ∧ t.RequestsServed

/-- R121, R122, R123, R128: the frame that carries a content of a station passes every check at a receiver, which reads
back its origin and every field that it keeps. The cause of a FIRE_ALARM and the source of a FIRE_RESET are not among
them. -/
def Obligations.FramesReadBackWhole : Prop :=
  ∀ (o : Station),
    (∀ cause demand, demand < 65536 → judgeFrame (frameChars o (.urgent (.fireAlarm cause demand))) =
      .valid ⟨o, .fireAlarm (BitVec.ofNat 16 demand)⟩) ∧
    (∀ source, judgeFrame (frameChars o (.urgent (.fireReset source))) = .valid ⟨o, .fireReset⟩) ∧
    (∀ fan fire, ∃ a b, judgeFrame (frameChars o (.claim fan fire)) = .valid ⟨o, .startClaim a b⟩ ∧
      a.toNat = (if fan = .A then 0 else 1) ∧ b.toNat = (if fire then 1 else 0)) ∧
    (∀ cls demand flags period, demand < 65536 → period < 256 → ∃ c f p,
      judgeFrame (frameChars o (.status cls demand flags period)) =
        .valid ⟨o, .zoneStatus c (BitVec.ofNat 16 demand) f p⟩ ∧
      c.toNat = cls.num ∧ flagsOf f = flags ∧ p.toNat = period ∧ f.toNat < 16)

end
end

