-- ==== Sys2Proof/Laws/State.lean ====
section
/-! SUPPORT. The small lemmas of the state: reading back what an update wrote, and what each plain update leaves alone. -/

namespace Sys2Proof

@[simp] theorem Quad.get_set {α : Type} (q : Quad α) (i j : Ix4) (v : α) :
    (q.set i v).get j = if j = i then v else q.get j := by cases i <;> cases j <;> rfl

@[simp] theorem PerFan.get_set {α : Type} (p : PerFan α) (f g : Fan) (v : α) :
    (p.set f v).get g = if g = f then v else p.get g := by cases f <;> cases g <;> rfl

@[simp] theorem PerDamper.get_set {α : Type} (p : PerDamper α) (d e : DamperId) (v : α) :
    (p.set d v).get e = if e = d then v else p.get e := by
  cases d <;> cases e <;> simp [PerDamper.set, PerDamper.get]

@[simp] theorem Inputs.get_set {α : Type} (p : Inputs α) (i j : InputId) (v : α) :
    (p.set i v).get j = if j = i then v else p.get j := by
  cases i <;> cases j <;> simp [Inputs.set, Inputs.get]

@[simp] theorem Quad.get_all {α : Type} (v : α) (i : Ix4) : (Quad.all v).get i = v := by cases i <;> rfl

@[simp] theorem PerFan.get_all {α : Type} (v : α) (f : Fan) : (PerFan.all v).get f = v := by cases f <;> rfl

@[simp] theorem PerDamper.get_all {α : Type} (v : α) (d : DamperId) : (PerDamper.all v).get d = v := by
  cases d <;> simp [PerDamper.all, PerDamper.get]

@[simp] theorem Inputs.get_all {α : Type} (v : α) (i : InputId) : (Inputs.all v).get i = v := by
  cases i <;> simp [Inputs.all, Inputs.get]

@[simp] theorem Fan.other_other (f : Fan) : f.other.other = f := by cases f <;> rfl

@[simp] theorem Fan.other_ne (f : Fan) : f.other ≠ f := by cases f <;> decide

theorem Fan.eq_or_other (f g : Fan) : g = f ∨ g = f.other := by cases f <;> cases g <;> simp [Fan.other]

namespace Machine

/-! ### Fan and damper records -/

@[simp] theorem State.setFan_fan (s : State) (f g : Fan) (u : FanUnit) :
    (s.setFan f u).fan g = if g = f then u else s.fan g := by simp [State.setFan, State.fan]

@[simp] theorem State.setFan_damper (s : State) (f : Fan) (u : FanUnit) (d : DamperId) :
    (s.setFan f u).damper d = s.damper d := rfl

@[simp] theorem State.setDamper_damper (s : State) (d e : DamperId) (u : DamperUnit) :
    (s.setDamper d u).damper e = if e = d then u else s.damper e := by simp [State.setDamper, State.damper]

@[simp] theorem State.setDamper_fan (s : State) (d : DamperId) (u : DamperUnit) (f : Fan) :
    (s.setDamper d u).fan f = s.fan f := rfl

@[simp] theorem State.setFan_starts (s : State) (f : Fan) (u : FanUnit) :
    (s.setFan f u).fans.starts = s.fans.starts := rfl

@[simp] theorem State.setFan_staging (s : State) (f : Fan) (u : FanUnit) :
    (s.setFan f u).fans.staging = s.fans.staging := rfl

@[simp] theorem State.setFan_target (s : State) (f : Fan) (u : FanUnit) :
    (s.setFan f u).fans.target = s.fans.target := rfl

@[simp] theorem State.setFan_begun (s : State) (f : Fan) (u : FanUnit) :
    (s.setFan f u).fans.begun = s.fans.begun := rfl

@[simp] theorem State.setFan_setpoint (s : State) (f : Fan) (u : FanUnit) :
    (s.setFan f u).fans.setpoint = s.fans.setpoint := rfl

/-! ### The record in force -/

/-- The configuration is read from the Record Store alone. -/
theorem State.cfg_of_store {s t : State} (h : t.store = s.store) : t.cfg = s.cfg := by simp [State.cfg, h]

/-! ### The passing of time -/

/-- R13: before reset release the TU counter does not run. -/
theorem State.elapse_unreleased (s : State) (dt : Tu) (h : s.released = false) : s.elapse dt = s := by
  simp [State.elapse, h]

/-- R13: after reset release the TU counter advances by what has passed. -/
theorem State.elapse_tu (s : State) (dt : Tu) (h : s.released = true) : (s.elapse dt).tu = s.tu + dt := by
  simp [State.elapse, h]

/-- R104: the passing of time leaves a fan's record alone but for its proving window counter. -/
theorem State.elapse_fan (s : State) (dt : Tu) (f : Fan) :
    ∃ w, (s.elapse dt).fan f = { s.fan f with window := w } := by
  unfold State.elapse
  split
  · simp only [State.fan]
    split
    · exact ⟨_, rfl⟩
    · cases f <;> exact ⟨_, rfl⟩
  · exact ⟨_, rfl⟩

/-- The passing of time leaves the Start List, the staging count, the target and s alone. -/
@[simp] theorem State.elapse_fans (s : State) (dt : Tu) :
    (s.elapse dt).fans.starts = s.fans.starts ∧ (s.elapse dt).fans.staging = s.fans.staging ∧
    (s.elapse dt).fans.target = s.fans.target ∧ (s.elapse dt).fans.setpoint = s.fans.setpoint := by
  unfold State.elapse
  split
  · split <;> exact ⟨rfl, rfl, rfl, rfl⟩
  · exact ⟨rfl, rfl, rfl, rfl⟩

/-! ### What a live command answers -/

theorem live_released (dt : Tu) (s : State) (f : State → State) (h : s.released = true) :
    live dt s f = .next (f (s.elapse dt)) := by simp [live, h]

theorem live_unreleased (dt : Tu) (s : State) (f : State → State) (h : s.released = false) :
    live dt s f = .next s := by simp [live, h]

/-- A live command always answers a next state. -/
theorem live_next (dt : Tu) (s : State) (f : State → State) : ∃ t, live dt s f = .next t := by
  unfold live
  split <;> exact ⟨_, rfl⟩

/-! ### The service port -/

/-- R167: a response is the port's alone. -/
@[simp] theorem State.respond_port (s : State) (code : Byte) (st : Status) (data : List Byte) :
    (s.respond code st data).port =
      { s.port with state := .ready, chars := [], busy := true, response := responseChars code st data } := rfl

@[simp] theorem State.charNow_port (s : State) : s.charNow.port = { s.port with lastChar := s.tu } := rfl

/-- R167: a request with a right sum and a right length, taken by a port that is free, is the command's to answer. -/
theorem State.request_accepted (s : State) (code : Byte) (n : Nat) (req : Request) (act : State → State)
    (free : s.portFree = true) (short : req.data.length ≤ Config.requestMax) (sum : requestSumOk code req = true)
    (len : req.data.length = n) : s.request code n req act = act s.charNow := by
  unfold State.request
  rw [if_pos free, if_neg (Nat.not_lt.mpr short), sum]
  simp [len]

/-- R166: a busy port discards the characters of a request. -/
theorem State.request_busy (s : State) (code : Byte) (n : Nat) (req : Request) (act : State → State)
    (busy : s.port.busy = true) : s.request code n req act = s := by
  simp [State.request, State.portFree, busy]

/-- R166: a port that is not busy and not READY takes the characters of a request for no more than the silence that starts
again at the last of them. -/
theorem State.request_skipping (s : State) (code : Byte) (n : Nat) (req : Request) (act : State → State)
    (busy : s.port.busy = false) (st : s.port.state ≠ .ready) : s.request code n req act = s.charNow := by
  simp [State.request, State.portFree, busy, st]

end Machine

end Sys2Proof
end

