-- ==== Sys2Proof/Laws/Frames.lean ====
section
/-! SUPPORT. The frame of every shared operation: the blocks that it leaves as they stand. A block that an operation's
lemma does not name is one that it may write. -/

namespace Sys2Proof.Machine

/-- A field of a choice of states is the choice of the fields. -/
theorem State.ite_fields (c : Prop) [Decidable c] (a b : State) :
    (if c then a else b).tu = (if c then a.tu else b.tu) ∧
    (if c then a else b).released = (if c then a.released else b.released) ∧
    (if c then a else b).pins = (if c then a.pins else b.pins) ∧
    (if c then a else b).store = (if c then a.store else b.store) ∧
    (if c then a else b).view = (if c then a.view else b.view) ∧
    (if c then a else b).share = (if c then a.share else b.share) ∧
    (if c then a else b).fume = (if c then a.fume else b.fume) ∧
    (if c then a else b).monitor = (if c then a.monitor else b.monitor) ∧
    (if c then a else b).zone = (if c then a.zone else b.zone) ∧
    (if c then a else b).fans = (if c then a.fans else b.fans) ∧
    (if c then a else b).dampers = (if c then a.dampers else b.dampers) ∧
    (if c then a else b).line = (if c then a.line else b.line) ∧
    (if c then a else b).rx = (if c then a.rx else b.rx) ∧
    (if c then a else b).tx = (if c then a.tx else b.tx) ∧
    (if c then a else b).forces = (if c then a.forces else b.forces) ∧
    (if c then a else b).port = (if c then a.port else b.port) ∧
    (if c then a else b).pending = (if c then a.pending else b.pending) := by
  split <;> simp

/-- R13, R104: time moves the TU counter and the proving windows. -/
@[simp] theorem State.elapse_frame (s : State) (dt : Tu) :
    (s.elapse dt).released = s.released ∧ (s.elapse dt).pins = s.pins ∧ (s.elapse dt).store = s.store ∧
    (s.elapse dt).view = s.view ∧ (s.elapse dt).share = s.share ∧ (s.elapse dt).fume = s.fume ∧
    (s.elapse dt).monitor = s.monitor ∧ (s.elapse dt).zone = s.zone ∧ (s.elapse dt).dampers = s.dampers ∧
    (s.elapse dt).line = s.line ∧ (s.elapse dt).rx = s.rx ∧ (s.elapse dt).tx = s.tx ∧
    (s.elapse dt).forces = s.forces ∧ (s.elapse dt).port = s.port ∧ (s.elapse dt).pending = s.pending := by
  simp [State.elapse, State.ite_fields]

/-- R87: only the fan's record changes. -/
@[simp] theorem State.setFan_frame (s : State) (f : Fan) (u : FanUnit) :
    (s.setFan f u).tu = s.tu ∧ (s.setFan f u).released = s.released ∧ (s.setFan f u).pins = s.pins ∧
    (s.setFan f u).store = s.store ∧ (s.setFan f u).view = s.view ∧ (s.setFan f u).share = s.share ∧
    (s.setFan f u).fume = s.fume ∧ (s.setFan f u).monitor = s.monitor ∧ (s.setFan f u).zone = s.zone ∧
    (s.setFan f u).dampers = s.dampers ∧ (s.setFan f u).line = s.line ∧ (s.setFan f u).rx = s.rx ∧
    (s.setFan f u).tx = s.tx ∧ (s.setFan f u).forces = s.forces ∧ (s.setFan f u).port = s.port ∧
    (s.setFan f u).pending = s.pending :=
  ⟨rfl, rfl, rfl, rfl, rfl, rfl, rfl, rfl, rfl, rfl, rfl, rfl, rfl, rfl, rfl, rfl⟩

/-- R107: only the damper's record changes. -/
@[simp] theorem State.setDamper_frame (s : State) (d : DamperId) (u : DamperUnit) :
    (s.setDamper d u).tu = s.tu ∧ (s.setDamper d u).released = s.released ∧ (s.setDamper d u).pins = s.pins ∧
    (s.setDamper d u).store = s.store ∧ (s.setDamper d u).view = s.view ∧ (s.setDamper d u).share = s.share ∧
    (s.setDamper d u).fume = s.fume ∧ (s.setDamper d u).monitor = s.monitor ∧ (s.setDamper d u).zone = s.zone ∧
    (s.setDamper d u).fans = s.fans ∧ (s.setDamper d u).line = s.line ∧ (s.setDamper d u).rx = s.rx ∧
    (s.setDamper d u).tx = s.tx ∧ (s.setDamper d u).forces = s.forces ∧ (s.setDamper d u).port = s.port ∧
    (s.setDamper d u).pending = s.pending :=
  ⟨rfl, rfl, rfl, rfl, rfl, rfl, rfl, rfl, rfl, rfl, rfl, rfl, rfl, rfl, rfl, rfl⟩

/-- R101: a claim state and its backoff timer are the fan's. -/
@[simp] theorem State.setClaim_frame (s : State) (f : Fan) (c : ClaimState) (b : Option Tu) :
    (s.setClaim f c b).tu = s.tu ∧ (s.setClaim f c b).released = s.released ∧
    (s.setClaim f c b).pins = s.pins ∧ (s.setClaim f c b).store = s.store ∧ (s.setClaim f c b).view = s.view ∧
    (s.setClaim f c b).share = s.share ∧ (s.setClaim f c b).fume = s.fume ∧
    (s.setClaim f c b).monitor = s.monitor ∧ (s.setClaim f c b).zone = s.zone ∧
    (s.setClaim f c b).dampers = s.dampers ∧ (s.setClaim f c b).line = s.line ∧ (s.setClaim f c b).rx = s.rx ∧
    (s.setClaim f c b).tx = s.tx ∧ (s.setClaim f c b).forces = s.forces ∧ (s.setClaim f c b).port = s.port ∧
    (s.setClaim f c b).pending = s.pending := by
  simp [State.setClaim]

/-- R90. -/
@[simp] theorem State.holdSetpoint_frame (s : State) :
    (s.holdSetpoint).tu = s.tu ∧ (s.holdSetpoint).released = s.released ∧ (s.holdSetpoint).pins = s.pins ∧
    (s.holdSetpoint).store = s.store ∧ (s.holdSetpoint).view = s.view ∧ (s.holdSetpoint).share = s.share ∧
    (s.holdSetpoint).fume = s.fume ∧ (s.holdSetpoint).monitor = s.monitor ∧ (s.holdSetpoint).zone = s.zone ∧
    (s.holdSetpoint).dampers = s.dampers ∧ (s.holdSetpoint).line = s.line ∧ (s.holdSetpoint).rx = s.rx ∧
    (s.holdSetpoint).tx = s.tx ∧ (s.holdSetpoint).forces = s.forces ∧ (s.holdSetpoint).port = s.port ∧
    (s.holdSetpoint).pending = s.pending := by
  simp [State.holdSetpoint, State.ite_fields]

/-- R92 to R96: a change of fan state is the Fan Controller's alone. -/
@[simp] theorem State.moveFan_frame (s : State) (f : Fan) (st : FanState) :
    (s.moveFan f st).tu = s.tu ∧ (s.moveFan f st).released = s.released ∧ (s.moveFan f st).pins = s.pins ∧
    (s.moveFan f st).store = s.store ∧ (s.moveFan f st).view = s.view ∧ (s.moveFan f st).share = s.share ∧
    (s.moveFan f st).fume = s.fume ∧ (s.moveFan f st).monitor = s.monitor ∧ (s.moveFan f st).zone = s.zone ∧
    (s.moveFan f st).dampers = s.dampers ∧ (s.moveFan f st).line = s.line ∧ (s.moveFan f st).rx = s.rx ∧
    (s.moveFan f st).tx = s.tx ∧ (s.moveFan f st).forces = s.forces ∧ (s.moveFan f st).port = s.port ∧
    (s.moveFan f st).pending = s.pending := by
  simp [State.moveFan]

/-- R102. -/
@[simp] theorem State.enterBackoff_frame (s : State) (f : Fan) :
    (s.enterBackoff f).tu = s.tu ∧ (s.enterBackoff f).released = s.released ∧
    (s.enterBackoff f).pins = s.pins ∧ (s.enterBackoff f).store = s.store ∧ (s.enterBackoff f).view = s.view ∧
    (s.enterBackoff f).share = s.share ∧ (s.enterBackoff f).fume = s.fume ∧
    (s.enterBackoff f).monitor = s.monitor ∧ (s.enterBackoff f).zone = s.zone ∧
    (s.enterBackoff f).dampers = s.dampers ∧ (s.enterBackoff f).line = s.line ∧ (s.enterBackoff f).rx = s.rx ∧
    (s.enterBackoff f).tx = s.tx ∧ (s.enterBackoff f).forces = s.forces ∧ (s.enterBackoff f).port = s.port ∧
    (s.enterBackoff f).pending = s.pending := by
  simp [State.enterBackoff]

/-- R25: a request is an event at the Share Computer. -/
@[simp] theorem State.requestPass_frame (s : State) :
    (s.requestPass).tu = s.tu ∧ (s.requestPass).released = s.released ∧ (s.requestPass).pins = s.pins ∧
    (s.requestPass).store = s.store ∧ (s.requestPass).view = s.view ∧ (s.requestPass).fume = s.fume ∧
    (s.requestPass).monitor = s.monitor ∧ (s.requestPass).zone = s.zone ∧ (s.requestPass).fans = s.fans ∧
    (s.requestPass).dampers = s.dampers ∧ (s.requestPass).line = s.line ∧ (s.requestPass).rx = s.rx ∧
    (s.requestPass).tx = s.tx ∧ (s.requestPass).forces = s.forces ∧ (s.requestPass).port = s.port ∧
    (s.requestPass).pending = s.pending :=
  ⟨rfl, rfl, rfl, rfl, rfl, rfl, rfl, rfl, rfl, rfl, rfl, rfl, rfl, rfl, rfl, rfl⟩

/-- R27. -/
@[simp] theorem State.startPass_frame (s : State) :
    (s.startPass).tu = s.tu ∧ (s.startPass).released = s.released ∧ (s.startPass).pins = s.pins ∧
    (s.startPass).store = s.store ∧ (s.startPass).view = s.view ∧ (s.startPass).fume = s.fume ∧
    (s.startPass).monitor = s.monitor ∧ (s.startPass).zone = s.zone ∧ (s.startPass).fans = s.fans ∧
    (s.startPass).dampers = s.dampers ∧ (s.startPass).line = s.line ∧ (s.startPass).rx = s.rx ∧
    (s.startPass).tx = s.tx ∧ (s.startPass).forces = s.forces ∧ (s.startPass).port = s.port ∧
    (s.startPass).pending = s.pending :=
  ⟨rfl, rfl, rfl, rfl, rfl, rfl, rfl, rfl, rfl, rfl, rfl, rfl, rfl, rfl, rfl, rfl⟩

/-- R26. -/
@[simp] theorem State.serve_frame (s : State) :
    (s.serve).tu = s.tu ∧ (s.serve).released = s.released ∧ (s.serve).pins = s.pins ∧
    (s.serve).store = s.store ∧ (s.serve).view = s.view ∧ (s.serve).fume = s.fume ∧
    (s.serve).monitor = s.monitor ∧ (s.serve).zone = s.zone ∧ (s.serve).fans = s.fans ∧
    (s.serve).dampers = s.dampers ∧ (s.serve).line = s.line ∧ (s.serve).rx = s.rx ∧ (s.serve).tx = s.tx ∧
    (s.serve).forces = s.forces ∧ (s.serve).port = s.port ∧ (s.serve).pending = s.pending := by
  simp [State.serve, State.ite_fields]

/-- R155: a notice is taken by the Transmit Unit. -/
@[simp] theorem State.notice_frame (s : State) :
    (s.notice).tu = s.tu ∧ (s.notice).released = s.released ∧ (s.notice).pins = s.pins ∧
    (s.notice).store = s.store ∧ (s.notice).view = s.view ∧ (s.notice).share = s.share ∧
    (s.notice).fume = s.fume ∧ (s.notice).monitor = s.monitor ∧ (s.notice).zone = s.zone ∧
    (s.notice).fans = s.fans ∧ (s.notice).dampers = s.dampers ∧ (s.notice).line = s.line ∧
    (s.notice).rx = s.rx ∧ (s.notice).forces = s.forces ∧ (s.notice).port = s.port ∧
    (s.notice).pending = s.pending := by
  unfold State.notice
  (repeat' split) <;> simp

/-- R24. -/
@[simp] theorem State.recompute_frame (s : State) :
    (s.recompute).tu = s.tu ∧ (s.recompute).released = s.released ∧ (s.recompute).pins = s.pins ∧
    (s.recompute).store = s.store ∧ (s.recompute).view = s.view ∧ (s.recompute).fume = s.fume ∧
    (s.recompute).monitor = s.monitor ∧ (s.recompute).zone = s.zone ∧ (s.recompute).fans = s.fans ∧
    (s.recompute).dampers = s.dampers ∧ (s.recompute).line = s.line ∧ (s.recompute).rx = s.rx ∧
    (s.recompute).forces = s.forces ∧ (s.recompute).port = s.port ∧ (s.recompute).pending = s.pending := by
  simp [State.recompute, State.ite_fields]

/-- R100. -/
@[simp] theorem State.handRemoval_frame (s : State) (e : ClaimEntry) :
    (s.handRemoval e).tu = s.tu ∧ (s.handRemoval e).released = s.released ∧ (s.handRemoval e).pins = s.pins ∧
    (s.handRemoval e).store = s.store ∧ (s.handRemoval e).view = s.view ∧ (s.handRemoval e).share = s.share ∧
    (s.handRemoval e).fume = s.fume ∧ (s.handRemoval e).monitor = s.monitor ∧ (s.handRemoval e).zone = s.zone ∧
    (s.handRemoval e).dampers = s.dampers ∧ (s.handRemoval e).line = s.line ∧ (s.handRemoval e).rx = s.rx ∧
    (s.handRemoval e).tx = s.tx ∧ (s.handRemoval e).forces = s.forces ∧ (s.handRemoval e).port = s.port ∧
    (s.handRemoval e).pending = s.pending := by
  simp [State.handRemoval, State.ite_fields]

/-- R99, step 1. -/
@[simp] theorem State.dropSame_frame (s : State) (e : ClaimEntry) :
    (s.dropSame e).tu = s.tu ∧ (s.dropSame e).released = s.released ∧ (s.dropSame e).pins = s.pins ∧
    (s.dropSame e).store = s.store ∧ (s.dropSame e).view = s.view ∧ (s.dropSame e).share = s.share ∧
    (s.dropSame e).fume = s.fume ∧ (s.dropSame e).monitor = s.monitor ∧ (s.dropSame e).zone = s.zone ∧
    (s.dropSame e).dampers = s.dampers ∧ (s.dropSame e).line = s.line ∧ (s.dropSame e).rx = s.rx ∧
    (s.dropSame e).tx = s.tx ∧ (s.dropSame e).forces = s.forces ∧ (s.dropSame e).port = s.port ∧
    (s.dropSame e).pending = s.pending := by
  simp [State.dropSame, State.ite_fields]

/-- R99, step 4. -/
@[simp] theorem State.appendClaim_frame (s : State) (e : ClaimEntry) :
    (s.appendClaim e).tu = s.tu ∧ (s.appendClaim e).released = s.released ∧ (s.appendClaim e).pins = s.pins ∧
    (s.appendClaim e).store = s.store ∧ (s.appendClaim e).view = s.view ∧ (s.appendClaim e).share = s.share ∧
    (s.appendClaim e).fume = s.fume ∧ (s.appendClaim e).monitor = s.monitor ∧ (s.appendClaim e).zone = s.zone ∧
    (s.appendClaim e).dampers = s.dampers ∧ (s.appendClaim e).line = s.line ∧ (s.appendClaim e).rx = s.rx ∧
    (s.appendClaim e).tx = s.tx ∧ (s.appendClaim e).forces = s.forces ∧ (s.appendClaim e).port = s.port ∧
    (s.appendClaim e).pending = s.pending := by
  unfold State.appendClaim
  (repeat' split) <;> simp

/-- R99: a claim is taken by the Fan Controller alone. -/
@[simp] theorem State.takeEntry_frame (s : State) (e : ClaimEntry) :
    (s.takeEntry e).tu = s.tu ∧ (s.takeEntry e).released = s.released ∧ (s.takeEntry e).pins = s.pins ∧
    (s.takeEntry e).store = s.store ∧ (s.takeEntry e).view = s.view ∧ (s.takeEntry e).share = s.share ∧
    (s.takeEntry e).fume = s.fume ∧ (s.takeEntry e).monitor = s.monitor ∧ (s.takeEntry e).zone = s.zone ∧
    (s.takeEntry e).dampers = s.dampers ∧ (s.takeEntry e).line = s.line ∧ (s.takeEntry e).rx = s.rx ∧
    (s.takeEntry e).tx = s.tx ∧ (s.takeEntry e).forces = s.forces ∧ (s.takeEntry e).port = s.port ∧
    (s.takeEntry e).pending = s.pending := by
  simp [State.takeEntry, State.ite_fields]

/-- R93. -/
@[simp] theorem State.startFan_frame (s : State) (f : Fan) :
    (s.startFan f).tu = s.tu ∧ (s.startFan f).released = s.released ∧ (s.startFan f).pins = s.pins ∧
    (s.startFan f).store = s.store ∧ (s.startFan f).view = s.view ∧ (s.startFan f).share = s.share ∧
    (s.startFan f).fume = s.fume ∧ (s.startFan f).monitor = s.monitor ∧ (s.startFan f).zone = s.zone ∧
    (s.startFan f).dampers = s.dampers ∧ (s.startFan f).line = s.line ∧ (s.startFan f).rx = s.rx ∧
    (s.startFan f).tx = s.tx ∧ (s.startFan f).forces = s.forces ∧ (s.startFan f).port = s.port ∧
    (s.startFan f).pending = s.pending := by
  simp [State.startFan, State.ite_fields]

/-- R99, R101. -/
@[simp] theorem State.decideClaim_frame (s : State) (f : Fan) (e : ClaimEntry) :
    (s.decideClaim f e).tu = s.tu ∧ (s.decideClaim f e).released = s.released ∧
    (s.decideClaim f e).pins = s.pins ∧ (s.decideClaim f e).store = s.store ∧
    (s.decideClaim f e).view = s.view ∧ (s.decideClaim f e).share = s.share ∧
    (s.decideClaim f e).fume = s.fume ∧ (s.decideClaim f e).monitor = s.monitor ∧
    (s.decideClaim f e).zone = s.zone ∧ (s.decideClaim f e).dampers = s.dampers ∧
    (s.decideClaim f e).line = s.line ∧ (s.decideClaim f e).rx = s.rx ∧ (s.decideClaim f e).tx = s.tx ∧
    (s.decideClaim f e).forces = s.forces ∧ (s.decideClaim f e).port = s.port ∧
    (s.decideClaim f e).pending = s.pending := by
  simp [State.decideClaim, State.ite_fields]

/-- R103: a local claim is not handed to the Transmit Unit. -/
@[simp] theorem State.localClaim_frame (s : State) (f : Fan) :
    (s.localClaim f).tu = s.tu ∧ (s.localClaim f).released = s.released ∧ (s.localClaim f).pins = s.pins ∧
    (s.localClaim f).store = s.store ∧ (s.localClaim f).view = s.view ∧ (s.localClaim f).share = s.share ∧
    (s.localClaim f).fume = s.fume ∧ (s.localClaim f).monitor = s.monitor ∧ (s.localClaim f).zone = s.zone ∧
    (s.localClaim f).dampers = s.dampers ∧ (s.localClaim f).line = s.line ∧ (s.localClaim f).rx = s.rx ∧
    (s.localClaim f).tx = s.tx ∧ (s.localClaim f).forces = s.forces ∧ (s.localClaim f).port = s.port ∧
    (s.localClaim f).pending = s.pending := by
  simp [State.localClaim]

/-- R101, R103: a claim is placed in the slot or decided by the Fan Controller. -/
@[simp] theorem State.giveClaim_frame (s : State) (f : Fan) :
    (s.giveClaim f).tu = s.tu ∧ (s.giveClaim f).released = s.released ∧ (s.giveClaim f).pins = s.pins ∧
    (s.giveClaim f).store = s.store ∧ (s.giveClaim f).view = s.view ∧ (s.giveClaim f).share = s.share ∧
    (s.giveClaim f).fume = s.fume ∧ (s.giveClaim f).monitor = s.monitor ∧ (s.giveClaim f).zone = s.zone ∧
    (s.giveClaim f).dampers = s.dampers ∧ (s.giveClaim f).line = s.line ∧ (s.giveClaim f).rx = s.rx ∧
    (s.giveClaim f).forces = s.forces ∧ (s.giveClaim f).port = s.port ∧
    (s.giveClaim f).pending = s.pending := by
  simp [State.giveClaim, State.ite_fields]

/-- R101, R103. -/
@[simp] theorem State.handClaim_frame (s : State) (f : Fan) :
    (s.handClaim f).tu = s.tu ∧ (s.handClaim f).released = s.released ∧ (s.handClaim f).pins = s.pins ∧
    (s.handClaim f).store = s.store ∧ (s.handClaim f).view = s.view ∧ (s.handClaim f).share = s.share ∧
    (s.handClaim f).fume = s.fume ∧ (s.handClaim f).monitor = s.monitor ∧ (s.handClaim f).zone = s.zone ∧
    (s.handClaim f).dampers = s.dampers ∧ (s.handClaim f).line = s.line ∧ (s.handClaim f).rx = s.rx ∧
    (s.handClaim f).forces = s.forces ∧ (s.handClaim f).port = s.port ∧
    (s.handClaim f).pending = s.pending := by
  simp [State.handClaim]

/-- R101: a claim started waits for the end of its event. -/
@[simp] theorem State.startClaim_frame (s : State) (f : Fan) :
    (s.startClaim f).tu = s.tu ∧ (s.startClaim f).released = s.released ∧ (s.startClaim f).pins = s.pins ∧
    (s.startClaim f).store = s.store ∧ (s.startClaim f).view = s.view ∧ (s.startClaim f).share = s.share ∧
    (s.startClaim f).fume = s.fume ∧ (s.startClaim f).monitor = s.monitor ∧ (s.startClaim f).zone = s.zone ∧
    (s.startClaim f).dampers = s.dampers ∧ (s.startClaim f).line = s.line ∧ (s.startClaim f).rx = s.rx ∧
    (s.startClaim f).tx = s.tx ∧ (s.startClaim f).forces = s.forces ∧ (s.startClaim f).port = s.port ∧
    (s.startClaim f).pending = s.pending := by
  simp [State.startClaim, State.ite_fields]

/-- R103, R151. -/
@[simp] theorem State.placeClaim_frame (s : State) (f : Fan) :
    (s.placeClaim f).tu = s.tu ∧ (s.placeClaim f).released = s.released ∧ (s.placeClaim f).pins = s.pins ∧
    (s.placeClaim f).store = s.store ∧ (s.placeClaim f).view = s.view ∧ (s.placeClaim f).share = s.share ∧
    (s.placeClaim f).fume = s.fume ∧ (s.placeClaim f).monitor = s.monitor ∧ (s.placeClaim f).zone = s.zone ∧
    (s.placeClaim f).dampers = s.dampers ∧ (s.placeClaim f).line = s.line ∧ (s.placeClaim f).rx = s.rx ∧
    (s.placeClaim f).forces = s.forces ∧ (s.placeClaim f).port = s.port ∧
    (s.placeClaim f).pending = s.pending := by
  simp [State.placeClaim, State.ite_fields]

/-- R103, R151. -/
@[simp] theorem State.placeClaims_frame (s : State) :
    (s.placeClaims).tu = s.tu ∧ (s.placeClaims).released = s.released ∧ (s.placeClaims).pins = s.pins ∧
    (s.placeClaims).store = s.store ∧ (s.placeClaims).view = s.view ∧ (s.placeClaims).share = s.share ∧
    (s.placeClaims).fume = s.fume ∧ (s.placeClaims).monitor = s.monitor ∧ (s.placeClaims).zone = s.zone ∧
    (s.placeClaims).dampers = s.dampers ∧ (s.placeClaims).line = s.line ∧ (s.placeClaims).rx = s.rx ∧
    (s.placeClaims).forces = s.forces ∧ (s.placeClaims).port = s.port ∧
    (s.placeClaims).pending = s.pending := by
  simp [State.placeClaims]

/-- R102. -/
@[simp] theorem State.abortClaim_frame (s : State) (f : Fan) :
    (s.abortClaim f).tu = s.tu ∧ (s.abortClaim f).released = s.released ∧ (s.abortClaim f).pins = s.pins ∧
    (s.abortClaim f).store = s.store ∧ (s.abortClaim f).view = s.view ∧ (s.abortClaim f).share = s.share ∧
    (s.abortClaim f).fume = s.fume ∧ (s.abortClaim f).monitor = s.monitor ∧ (s.abortClaim f).zone = s.zone ∧
    (s.abortClaim f).dampers = s.dampers ∧ (s.abortClaim f).line = s.line ∧ (s.abortClaim f).rx = s.rx ∧
    (s.abortClaim f).forces = s.forces ∧ (s.abortClaim f).port = s.port ∧ (s.abortClaim f).pending = s.pending := by
  unfold State.abortClaim
  (repeat' split) <;> simp

/-- R92. -/
@[simp] theorem State.leaveStopped_frame (s : State) (f : Fan) :
    (s.leaveStopped f).tu = s.tu ∧ (s.leaveStopped f).released = s.released ∧
    (s.leaveStopped f).pins = s.pins ∧ (s.leaveStopped f).store = s.store ∧ (s.leaveStopped f).view = s.view ∧
    (s.leaveStopped f).share = s.share ∧ (s.leaveStopped f).fume = s.fume ∧
    (s.leaveStopped f).monitor = s.monitor ∧ (s.leaveStopped f).zone = s.zone ∧
    (s.leaveStopped f).dampers = s.dampers ∧ (s.leaveStopped f).line = s.line ∧ (s.leaveStopped f).rx = s.rx ∧
    (s.leaveStopped f).forces = s.forces ∧ (s.leaveStopped f).port = s.port ∧
    (s.leaveStopped f).pending = s.pending := by
  unfold State.leaveStopped
  (repeat' split) <;> simp

/-- R95. -/
@[simp] theorem State.endRundown_frame (s : State) (f : Fan) :
    (s.endRundown f).tu = s.tu ∧ (s.endRundown f).released = s.released ∧ (s.endRundown f).pins = s.pins ∧
    (s.endRundown f).store = s.store ∧ (s.endRundown f).view = s.view ∧ (s.endRundown f).share = s.share ∧
    (s.endRundown f).fume = s.fume ∧ (s.endRundown f).monitor = s.monitor ∧ (s.endRundown f).zone = s.zone ∧
    (s.endRundown f).dampers = s.dampers ∧ (s.endRundown f).line = s.line ∧ (s.endRundown f).rx = s.rx ∧
    (s.endRundown f).forces = s.forces ∧ (s.endRundown f).port = s.port ∧ (s.endRundown f).pending = s.pending := by
  simp [State.endRundown, State.ite_fields]

/-- R94, R95. -/
@[simp] theorem State.enterRundown_frame (s : State) (f : Fan) :
    (s.enterRundown f).tu = s.tu ∧ (s.enterRundown f).released = s.released ∧
    (s.enterRundown f).pins = s.pins ∧ (s.enterRundown f).store = s.store ∧ (s.enterRundown f).view = s.view ∧
    (s.enterRundown f).share = s.share ∧ (s.enterRundown f).fume = s.fume ∧
    (s.enterRundown f).monitor = s.monitor ∧ (s.enterRundown f).zone = s.zone ∧
    (s.enterRundown f).dampers = s.dampers ∧ (s.enterRundown f).line = s.line ∧ (s.enterRundown f).rx = s.rx ∧
    (s.enterRundown f).forces = s.forces ∧ (s.enterRundown f).port = s.port ∧
    (s.enterRundown f).pending = s.pending := by
  simp [State.enterRundown, State.ite_fields]

/-- R92 to R95. -/
@[simp] theorem State.answerNeed_frame (s : State) (f : Fan) :
    (s.answerNeed f).tu = s.tu ∧ (s.answerNeed f).released = s.released ∧ (s.answerNeed f).pins = s.pins ∧
    (s.answerNeed f).store = s.store ∧ (s.answerNeed f).view = s.view ∧ (s.answerNeed f).share = s.share ∧
    (s.answerNeed f).fume = s.fume ∧ (s.answerNeed f).monitor = s.monitor ∧ (s.answerNeed f).zone = s.zone ∧
    (s.answerNeed f).dampers = s.dampers ∧ (s.answerNeed f).line = s.line ∧ (s.answerNeed f).rx = s.rx ∧
    (s.answerNeed f).forces = s.forces ∧ (s.answerNeed f).port = s.port ∧ (s.answerNeed f).pending = s.pending := by
  unfold State.answerNeed
  (repeat' split) <;> simp

/-- R89. -/
@[simp] theorem State.stage_frame (s : State) :
    (s.stage).tu = s.tu ∧ (s.stage).released = s.released ∧ (s.stage).pins = s.pins ∧
    (s.stage).store = s.store ∧ (s.stage).view = s.view ∧ (s.stage).share = s.share ∧ (s.stage).fume = s.fume ∧
    (s.stage).monitor = s.monitor ∧ (s.stage).zone = s.zone ∧ (s.stage).dampers = s.dampers ∧
    (s.stage).line = s.line ∧ (s.stage).rx = s.rx ∧ (s.stage).forces = s.forces ∧ (s.stage).port = s.port ∧
    (s.stage).pending = s.pending := by
  simp [State.stage]

/-- R24, R88. -/
@[simp] theorem State.fmaxChanged_frame (s : State) :
    (s.fmaxChanged).tu = s.tu ∧ (s.fmaxChanged).released = s.released ∧ (s.fmaxChanged).pins = s.pins ∧
    (s.fmaxChanged).store = s.store ∧ (s.fmaxChanged).view = s.view ∧ (s.fmaxChanged).fume = s.fume ∧
    (s.fmaxChanged).monitor = s.monitor ∧ (s.fmaxChanged).zone = s.zone ∧ (s.fmaxChanged).fans = s.fans ∧
    (s.fmaxChanged).dampers = s.dampers ∧ (s.fmaxChanged).line = s.line ∧ (s.fmaxChanged).rx = s.rx ∧
    (s.fmaxChanged).forces = s.forces ∧ (s.fmaxChanged).port = s.port ∧ (s.fmaxChanged).pending = s.pending := by
  simp [State.fmaxChanged]

/-- R106. -/
@[simp] theorem State.noticeFanFault_frame (s : State) (b : Bool) :
    (s.noticeFanFault b).tu = s.tu ∧ (s.noticeFanFault b).released = s.released ∧
    (s.noticeFanFault b).pins = s.pins ∧ (s.noticeFanFault b).store = s.store ∧
    (s.noticeFanFault b).view = s.view ∧ (s.noticeFanFault b).share = s.share ∧
    (s.noticeFanFault b).fume = s.fume ∧ (s.noticeFanFault b).monitor = s.monitor ∧
    (s.noticeFanFault b).zone = s.zone ∧ (s.noticeFanFault b).fans = s.fans ∧
    (s.noticeFanFault b).dampers = s.dampers ∧ (s.noticeFanFault b).line = s.line ∧
    (s.noticeFanFault b).rx = s.rx ∧ (s.noticeFanFault b).forces = s.forces ∧
    (s.noticeFanFault b).port = s.port ∧ (s.noticeFanFault b).pending = s.pending := by
  simp [State.noticeFanFault, State.ite_fields]

/-- R96. -/
@[simp] theorem State.faultFan_frame (s : State) (f : Fan) (c : FanFault) :
    (s.faultFan f c).tu = s.tu ∧ (s.faultFan f c).released = s.released ∧ (s.faultFan f c).pins = s.pins ∧
    (s.faultFan f c).store = s.store ∧ (s.faultFan f c).view = s.view ∧ (s.faultFan f c).fume = s.fume ∧
    (s.faultFan f c).monitor = s.monitor ∧ (s.faultFan f c).zone = s.zone ∧
    (s.faultFan f c).dampers = s.dampers ∧ (s.faultFan f c).line = s.line ∧ (s.faultFan f c).rx = s.rx ∧
    (s.faultFan f c).forces = s.forces ∧ (s.faultFan f c).port = s.port ∧ (s.faultFan f c).pending = s.pending := by
  simp [State.faultFan, State.ite_fields]

/-- R115. -/
@[simp] theorem State.fanReachesOpen_frame (s : State) (f : Fan) :
    (s.fanReachesOpen f).tu = s.tu ∧ (s.fanReachesOpen f).released = s.released ∧
    (s.fanReachesOpen f).pins = s.pins ∧ (s.fanReachesOpen f).store = s.store ∧
    (s.fanReachesOpen f).view = s.view ∧ (s.fanReachesOpen f).share = s.share ∧
    (s.fanReachesOpen f).fume = s.fume ∧ (s.fanReachesOpen f).monitor = s.monitor ∧
    (s.fanReachesOpen f).zone = s.zone ∧ (s.fanReachesOpen f).dampers = s.dampers ∧
    (s.fanReachesOpen f).line = s.line ∧ (s.fanReachesOpen f).rx = s.rx ∧
    (s.fanReachesOpen f).forces = s.forces ∧ (s.fanReachesOpen f).port = s.port ∧
    (s.fanReachesOpen f).pending = s.pending := by
  simp [State.fanReachesOpen, State.ite_fields]

/-- R115. -/
@[simp] theorem State.fanLeavesOpen_frame (s : State) (f : Fan) :
    (s.fanLeavesOpen f).tu = s.tu ∧ (s.fanLeavesOpen f).released = s.released ∧
    (s.fanLeavesOpen f).pins = s.pins ∧ (s.fanLeavesOpen f).store = s.store ∧
    (s.fanLeavesOpen f).view = s.view ∧ (s.fanLeavesOpen f).share = s.share ∧
    (s.fanLeavesOpen f).fume = s.fume ∧ (s.fanLeavesOpen f).monitor = s.monitor ∧
    (s.fanLeavesOpen f).zone = s.zone ∧ (s.fanLeavesOpen f).dampers = s.dampers ∧
    (s.fanLeavesOpen f).line = s.line ∧ (s.fanLeavesOpen f).rx = s.rx ∧ (s.fanLeavesOpen f).forces = s.forces ∧
    (s.fanLeavesOpen f).port = s.port ∧ (s.fanLeavesOpen f).pending = s.pending := by
  unfold State.fanLeavesOpen
  (repeat' split) <;> simp

/-- R115: a change of a damper reaches its fan alone. -/
@[simp] theorem State.handDamper_frame (s : State) (d : DamperId) (a b : DamperState) :
    (s.handDamper d a b).tu = s.tu ∧ (s.handDamper d a b).released = s.released ∧
    (s.handDamper d a b).pins = s.pins ∧ (s.handDamper d a b).store = s.store ∧
    (s.handDamper d a b).view = s.view ∧ (s.handDamper d a b).fume = s.fume ∧
    (s.handDamper d a b).monitor = s.monitor ∧ (s.handDamper d a b).zone = s.zone ∧
    (s.handDamper d a b).dampers = s.dampers ∧ (s.handDamper d a b).line = s.line ∧
    (s.handDamper d a b).rx = s.rx ∧ (s.handDamper d a b).forces = s.forces ∧
    (s.handDamper d a b).port = s.port ∧ (s.handDamper d a b).pending = s.pending := by
  unfold State.handDamper
  (repeat' split) <;> simp

/-- R115. -/
@[simp] theorem State.moveDamper_frame (s : State) (d : DamperId) (u : DamperUnit) :
    (s.moveDamper d u).tu = s.tu ∧ (s.moveDamper d u).released = s.released ∧
    (s.moveDamper d u).pins = s.pins ∧ (s.moveDamper d u).store = s.store ∧ (s.moveDamper d u).view = s.view ∧
    (s.moveDamper d u).fume = s.fume ∧ (s.moveDamper d u).monitor = s.monitor ∧
    (s.moveDamper d u).zone = s.zone ∧ (s.moveDamper d u).line = s.line ∧ (s.moveDamper d u).rx = s.rx ∧
    (s.moveDamper d u).forces = s.forces ∧ (s.moveDamper d u).port = s.port ∧
    (s.moveDamper d u).pending = s.pending := by
  simp [State.moveDamper]

/-- R111, R112. -/
@[simp] theorem State.driveDamper_frame (s : State) (d : DamperId) :
    (s.driveDamper d).tu = s.tu ∧ (s.driveDamper d).released = s.released ∧ (s.driveDamper d).pins = s.pins ∧
    (s.driveDamper d).store = s.store ∧ (s.driveDamper d).view = s.view ∧ (s.driveDamper d).fume = s.fume ∧
    (s.driveDamper d).monitor = s.monitor ∧ (s.driveDamper d).zone = s.zone ∧ (s.driveDamper d).line = s.line ∧
    (s.driveDamper d).rx = s.rx ∧ (s.driveDamper d).forces = s.forces ∧ (s.driveDamper d).port = s.port ∧
    (s.driveDamper d).pending = s.pending := by
  unfold State.driveDamper
  (repeat' split) <;> simp

/-- R110. -/
@[simp] theorem State.settleByLimits_frame (s : State) (d : DamperId) :
    (s.settleByLimits d).tu = s.tu ∧ (s.settleByLimits d).released = s.released ∧
    (s.settleByLimits d).pins = s.pins ∧ (s.settleByLimits d).store = s.store ∧
    (s.settleByLimits d).view = s.view ∧ (s.settleByLimits d).fume = s.fume ∧
    (s.settleByLimits d).monitor = s.monitor ∧ (s.settleByLimits d).zone = s.zone ∧
    (s.settleByLimits d).line = s.line ∧ (s.settleByLimits d).rx = s.rx ∧
    (s.settleByLimits d).forces = s.forces ∧ (s.settleByLimits d).port = s.port ∧
    (s.settleByLimits d).pending = s.pending := by
  simp [State.settleByLimits]

/-- R110. -/
@[simp] theorem State.settleDamper_frame (s : State) (d : DamperId) :
    (s.settleDamper d).tu = s.tu ∧ (s.settleDamper d).released = s.released ∧
    (s.settleDamper d).pins = s.pins ∧ (s.settleDamper d).store = s.store ∧ (s.settleDamper d).view = s.view ∧
    (s.settleDamper d).fume = s.fume ∧ (s.settleDamper d).monitor = s.monitor ∧
    (s.settleDamper d).zone = s.zone ∧ (s.settleDamper d).line = s.line ∧ (s.settleDamper d).rx = s.rx ∧
    (s.settleDamper d).forces = s.forces ∧ (s.settleDamper d).port = s.port ∧
    (s.settleDamper d).pending = s.pending := by
  simp [State.settleDamper]

/-- R109. -/
@[simp] theorem State.driveDampers_frame (s : State) :
    (s.driveDampers).tu = s.tu ∧ (s.driveDampers).released = s.released ∧ (s.driveDampers).pins = s.pins ∧
    (s.driveDampers).store = s.store ∧ (s.driveDampers).view = s.view ∧ (s.driveDampers).fume = s.fume ∧
    (s.driveDampers).monitor = s.monitor ∧ (s.driveDampers).zone = s.zone ∧ (s.driveDampers).line = s.line ∧
    (s.driveDampers).rx = s.rx ∧ (s.driveDampers).forces = s.forces ∧ (s.driveDampers).port = s.port ∧
    (s.driveDampers).pending = s.pending := by
  simp [State.driveDampers, State.driveExtracts, Ix4.all]

/-- The end of an event. -/
@[simp] theorem State.finish_frame (s : State) :
    (s.finish).tu = s.tu ∧ (s.finish).released = s.released ∧ (s.finish).pins = s.pins ∧
    (s.finish).store = s.store ∧ (s.finish).view = s.view ∧ (s.finish).fume = s.fume ∧
    (s.finish).monitor = s.monitor ∧ (s.finish).zone = s.zone ∧ (s.finish).line = s.line ∧
    (s.finish).rx = s.rx ∧ (s.finish).forces = s.forces ∧ (s.finish).port = s.port ∧
    (s.finish).pending = s.pending := by
  simp [State.finish]

/-- R149. -/
@[simp] theorem State.queueUrgent_frame (s : State) (u : Urgent) :
    (s.queueUrgent u).tu = s.tu ∧ (s.queueUrgent u).released = s.released ∧ (s.queueUrgent u).pins = s.pins ∧
    (s.queueUrgent u).store = s.store ∧ (s.queueUrgent u).view = s.view ∧ (s.queueUrgent u).share = s.share ∧
    (s.queueUrgent u).fume = s.fume ∧ (s.queueUrgent u).monitor = s.monitor ∧ (s.queueUrgent u).zone = s.zone ∧
    (s.queueUrgent u).fans = s.fans ∧ (s.queueUrgent u).dampers = s.dampers ∧ (s.queueUrgent u).line = s.line ∧
    (s.queueUrgent u).rx = s.rx ∧ (s.queueUrgent u).forces = s.forces ∧ (s.queueUrgent u).port = s.port ∧
    (s.queueUrgent u).pending = s.pending :=
  ⟨rfl, rfl, rfl, rfl, rfl, rfl, rfl, rfl, rfl, rfl, rfl, rfl, rfl, rfl, rfl, rfl⟩

/-- R102. -/
@[simp] theorem State.reclaim_frame (s : State) (f : Fan) :
    (s.reclaim f).tu = s.tu ∧ (s.reclaim f).released = s.released ∧ (s.reclaim f).pins = s.pins ∧
    (s.reclaim f).store = s.store ∧ (s.reclaim f).view = s.view ∧ (s.reclaim f).share = s.share ∧
    (s.reclaim f).fume = s.fume ∧ (s.reclaim f).monitor = s.monitor ∧ (s.reclaim f).zone = s.zone ∧
    (s.reclaim f).dampers = s.dampers ∧ (s.reclaim f).line = s.line ∧ (s.reclaim f).rx = s.rx ∧
    (s.reclaim f).forces = s.forces ∧ (s.reclaim f).port = s.port ∧ (s.reclaim f).pending = s.pending := by
  simp [State.reclaim, State.ite_fields]

/-- R154. -/
@[simp] theorem State.startHeartbeat_frame (s : State) :
    (s.startHeartbeat).tu = s.tu ∧ (s.startHeartbeat).released = s.released ∧
    (s.startHeartbeat).pins = s.pins ∧ (s.startHeartbeat).store = s.store ∧ (s.startHeartbeat).view = s.view ∧
    (s.startHeartbeat).share = s.share ∧ (s.startHeartbeat).fume = s.fume ∧
    (s.startHeartbeat).monitor = s.monitor ∧ (s.startHeartbeat).zone = s.zone ∧
    (s.startHeartbeat).fans = s.fans ∧ (s.startHeartbeat).dampers = s.dampers ∧
    (s.startHeartbeat).line = s.line ∧ (s.startHeartbeat).rx = s.rx ∧ (s.startHeartbeat).forces = s.forces ∧
    (s.startHeartbeat).port = s.port ∧ (s.startHeartbeat).pending = s.pending :=
  ⟨rfl, rfl, rfl, rfl, rfl, rfl, rfl, rfl, rfl, rfl, rfl, rfl, rfl, rfl, rfl, rfl⟩

/-- R71. -/
@[simp] theorem State.enterMode_frame (s : State) (m : Mode) :
    (s.enterMode m).tu = s.tu ∧ (s.enterMode m).released = s.released ∧ (s.enterMode m).pins = s.pins ∧
    (s.enterMode m).store = s.store ∧ (s.enterMode m).view = s.view ∧ (s.enterMode m).fume = s.fume ∧
    (s.enterMode m).monitor = s.monitor ∧ (s.enterMode m).dampers = s.dampers ∧ (s.enterMode m).line = s.line ∧
    (s.enterMode m).rx = s.rx ∧ (s.enterMode m).port = s.port ∧ (s.enterMode m).pending = s.pending := by
  simp [State.enterMode, State.ite_fields]

/-- R62, R74. -/
@[simp] theorem State.declare_frame (s : State) (c : FireCause) :
    (s.declare c).tu = s.tu ∧ (s.declare c).released = s.released ∧ (s.declare c).pins = s.pins ∧
    (s.declare c).store = s.store ∧ (s.declare c).view = s.view ∧ (s.declare c).fume = s.fume ∧
    (s.declare c).dampers = s.dampers ∧ (s.declare c).line = s.line ∧ (s.declare c).rx = s.rx ∧
    (s.declare c).port = s.port ∧ (s.declare c).pending = s.pending := by
  simp [State.declare, State.ite_fields]

/-- R58, R62. -/
@[simp] theorem State.enterPreAlarm_frame (s : State) :
    (s.enterPreAlarm).tu = s.tu ∧ (s.enterPreAlarm).released = s.released ∧ (s.enterPreAlarm).pins = s.pins ∧
    (s.enterPreAlarm).store = s.store ∧ (s.enterPreAlarm).view = s.view ∧ (s.enterPreAlarm).fume = s.fume ∧
    (s.enterPreAlarm).zone = s.zone ∧ (s.enterPreAlarm).fans = s.fans ∧ (s.enterPreAlarm).dampers = s.dampers ∧
    (s.enterPreAlarm).line = s.line ∧ (s.enterPreAlarm).rx = s.rx ∧ (s.enterPreAlarm).forces = s.forces ∧
    (s.enterPreAlarm).port = s.port ∧ (s.enterPreAlarm).pending = s.pending := by
  simp [State.enterPreAlarm]

/-- R59, R62. -/
@[simp] theorem State.clearPreAlarm_frame (s : State) :
    (s.clearPreAlarm).tu = s.tu ∧ (s.clearPreAlarm).released = s.released ∧ (s.clearPreAlarm).pins = s.pins ∧
    (s.clearPreAlarm).store = s.store ∧ (s.clearPreAlarm).view = s.view ∧ (s.clearPreAlarm).fume = s.fume ∧
    (s.clearPreAlarm).zone = s.zone ∧ (s.clearPreAlarm).fans = s.fans ∧ (s.clearPreAlarm).dampers = s.dampers ∧
    (s.clearPreAlarm).line = s.line ∧ (s.clearPreAlarm).rx = s.rx ∧ (s.clearPreAlarm).forces = s.forces ∧
    (s.clearPreAlarm).port = s.port ∧ (s.clearPreAlarm).pending = s.pending := by
  simp [State.clearPreAlarm]

/-- R65, R75. -/
@[simp] theorem State.acceptReset_frame (s : State) (src : ResetSource) :
    (s.acceptReset src).tu = s.tu ∧ (s.acceptReset src).released = s.released ∧
    (s.acceptReset src).pins = s.pins ∧ (s.acceptReset src).store = s.store ∧
    (s.acceptReset src).view = s.view ∧ (s.acceptReset src).fume = s.fume ∧
    (s.acceptReset src).dampers = s.dampers ∧ (s.acceptReset src).line = s.line ∧
    (s.acceptReset src).rx = s.rx ∧ (s.acceptReset src).port = s.port ∧ (s.acceptReset src).pending = s.pending := by
  simp [State.acceptReset]

/-- R56. -/
@[simp] theorem State.judgeAtStart_frame (s : State) :
    (s.judgeAtStart).tu = s.tu ∧ (s.judgeAtStart).released = s.released ∧ (s.judgeAtStart).pins = s.pins ∧
    (s.judgeAtStart).store = s.store ∧ (s.judgeAtStart).view = s.view ∧ (s.judgeAtStart).fume = s.fume ∧
    (s.judgeAtStart).dampers = s.dampers ∧ (s.judgeAtStart).line = s.line ∧ (s.judgeAtStart).rx = s.rx ∧
    (s.judgeAtStart).port = s.port ∧ (s.judgeAtStart).pending = s.pending := by
  unfold State.judgeAtStart
  (repeat' split) <;> simp

/-- R56. -/
@[simp] theorem State.startEvaluation_frame (s : State) :
    (s.startEvaluation).tu = s.tu ∧ (s.startEvaluation).released = s.released ∧
    (s.startEvaluation).pins = s.pins ∧ (s.startEvaluation).store = s.store ∧
    (s.startEvaluation).view = s.view ∧ (s.startEvaluation).fume = s.fume ∧
    (s.startEvaluation).dampers = s.dampers ∧ (s.startEvaluation).line = s.line ∧
    (s.startEvaluation).rx = s.rx ∧ (s.startEvaluation).port = s.port ∧ (s.startEvaluation).pending = s.pending := by
  simp [State.startEvaluation]

/-- R72. -/
@[simp] theorem State.leaveHold_frame (s : State) :
    (s.leaveHold).tu = s.tu ∧ (s.leaveHold).released = s.released ∧ (s.leaveHold).pins = s.pins ∧
    (s.leaveHold).store = s.store ∧ (s.leaveHold).view = s.view ∧ (s.leaveHold).fume = s.fume ∧
    (s.leaveHold).dampers = s.dampers ∧ (s.leaveHold).line = s.line ∧ (s.leaveHold).rx = s.rx ∧
    (s.leaveHold).port = s.port ∧ (s.leaveHold).pending = s.pending := by
  simp [State.leaveHold]

/-- R77, R79. -/
@[simp] theorem State.neighbourFire_frame (s : State) (o : Station) :
    (s.neighbourFire o).tu = s.tu ∧ (s.neighbourFire o).released = s.released ∧
    (s.neighbourFire o).pins = s.pins ∧ (s.neighbourFire o).store = s.store ∧
    (s.neighbourFire o).view = s.view ∧ (s.neighbourFire o).fume = s.fume ∧
    (s.neighbourFire o).monitor = s.monitor ∧ (s.neighbourFire o).dampers = s.dampers ∧
    (s.neighbourFire o).line = s.line ∧ (s.neighbourFire o).rx = s.rx ∧ (s.neighbourFire o).port = s.port ∧
    (s.neighbourFire o).pending = s.pending := by
  unfold State.neighbourFire
  (repeat' split) <;> simp

/-- R78, R79. -/
@[simp] theorem State.neighbourGone_frame (s : State) (o : Station) :
    (s.neighbourGone o).tu = s.tu ∧ (s.neighbourGone o).released = s.released ∧
    (s.neighbourGone o).pins = s.pins ∧ (s.neighbourGone o).store = s.store ∧
    (s.neighbourGone o).view = s.view ∧ (s.neighbourGone o).fume = s.fume ∧
    (s.neighbourGone o).monitor = s.monitor ∧ (s.neighbourGone o).dampers = s.dampers ∧
    (s.neighbourGone o).line = s.line ∧ (s.neighbourGone o).rx = s.rx ∧ (s.neighbourGone o).port = s.port ∧
    (s.neighbourGone o).pending = s.pending := by
  simp [State.neighbourGone, State.ite_fields]

/-- R103. -/
@[simp] theorem State.claimGoesLocal_frame (s : State) (f : Fan) (was : Bool) :
    (s.claimGoesLocal f was).tu = s.tu ∧ (s.claimGoesLocal f was).released = s.released ∧
    (s.claimGoesLocal f was).pins = s.pins ∧ (s.claimGoesLocal f was).store = s.store ∧
    (s.claimGoesLocal f was).view = s.view ∧ (s.claimGoesLocal f was).share = s.share ∧
    (s.claimGoesLocal f was).fume = s.fume ∧ (s.claimGoesLocal f was).monitor = s.monitor ∧
    (s.claimGoesLocal f was).zone = s.zone ∧ (s.claimGoesLocal f was).dampers = s.dampers ∧
    (s.claimGoesLocal f was).line = s.line ∧ (s.claimGoesLocal f was).rx = s.rx ∧
    (s.claimGoesLocal f was).tx = s.tx ∧ (s.claimGoesLocal f was).forces = s.forces ∧
    (s.claimGoesLocal f was).port = s.port ∧ (s.claimGoesLocal f was).pending = s.pending := by
  simp [State.claimGoesLocal, State.ite_fields]

/-- R103, R151. -/
@[simp] theorem State.claimsGoLocal_frame (s : State) :
    (s.claimsGoLocal).tu = s.tu ∧ (s.claimsGoLocal).released = s.released ∧ (s.claimsGoLocal).pins = s.pins ∧
    (s.claimsGoLocal).store = s.store ∧ (s.claimsGoLocal).view = s.view ∧ (s.claimsGoLocal).share = s.share ∧
    (s.claimsGoLocal).fume = s.fume ∧ (s.claimsGoLocal).monitor = s.monitor ∧ (s.claimsGoLocal).zone = s.zone ∧
    (s.claimsGoLocal).dampers = s.dampers ∧ (s.claimsGoLocal).line = s.line ∧ (s.claimsGoLocal).rx = s.rx ∧
    (s.claimsGoLocal).forces = s.forces ∧ (s.claimsGoLocal).port = s.port ∧
    (s.claimsGoLocal).pending = s.pending := by
  simp [State.claimsGoLocal]

/-- R132. -/
@[simp] theorem State.setIsolated_frame (s : State) :
    (s.setIsolated).tu = s.tu ∧ (s.setIsolated).released = s.released ∧ (s.setIsolated).pins = s.pins ∧
    (s.setIsolated).store = s.store ∧ (s.setIsolated).view = s.view ∧ (s.setIsolated).fume = s.fume ∧
    (s.setIsolated).monitor = s.monitor ∧ (s.setIsolated).zone = s.zone ∧ (s.setIsolated).dampers = s.dampers ∧
    (s.setIsolated).rx = s.rx ∧ (s.setIsolated).forces = s.forces ∧ (s.setIsolated).port = s.port ∧
    (s.setIsolated).pending = s.pending := by
  simp [State.setIsolated, State.ite_fields]

/-- R167. -/
@[simp] theorem State.respond_frame (s : State) (code : Byte) (st : Status) (data : List Byte) :
    (s.respond code st data).tu = s.tu ∧ (s.respond code st data).released = s.released ∧
    (s.respond code st data).pins = s.pins ∧ (s.respond code st data).store = s.store ∧
    (s.respond code st data).view = s.view ∧ (s.respond code st data).share = s.share ∧
    (s.respond code st data).fume = s.fume ∧ (s.respond code st data).monitor = s.monitor ∧
    (s.respond code st data).zone = s.zone ∧ (s.respond code st data).fans = s.fans ∧
    (s.respond code st data).dampers = s.dampers ∧ (s.respond code st data).line = s.line ∧
    (s.respond code st data).rx = s.rx ∧ (s.respond code st data).tx = s.tx ∧
    (s.respond code st data).forces = s.forces ∧ (s.respond code st data).pending = s.pending :=
  ⟨rfl, rfl, rfl, rfl, rfl, rfl, rfl, rfl, rfl, rfl, rfl, rfl, rfl, rfl, rfl, rfl⟩

/-- R166. -/
@[simp] theorem State.charNow_frame (s : State) :
    (s.charNow).tu = s.tu ∧ (s.charNow).released = s.released ∧ (s.charNow).pins = s.pins ∧
    (s.charNow).store = s.store ∧ (s.charNow).view = s.view ∧ (s.charNow).share = s.share ∧
    (s.charNow).fume = s.fume ∧ (s.charNow).monitor = s.monitor ∧ (s.charNow).zone = s.zone ∧
    (s.charNow).fans = s.fans ∧ (s.charNow).dampers = s.dampers ∧ (s.charNow).line = s.line ∧
    (s.charNow).rx = s.rx ∧ (s.charNow).tx = s.tx ∧ (s.charNow).forces = s.forces ∧
    (s.charNow).pending = s.pending :=
  ⟨rfl, rfl, rfl, rfl, rfl, rfl, rfl, rfl, rfl, rfl, rfl, rfl, rfl, rfl, rfl, rfl⟩

end Sys2Proof.Machine
end

