-- ==== Sys2Proof/Laws/Operations.lean ====
section
/-! SUPPORT. What the claim, fan and damper operations leave alone inside the blocks that they write: a claim concerns the
CLAIM slot and the requests of the Transmit Unit, and the state of a fan its own record, s and the Start List. -/

namespace Sys2Proof.Machine

/-! ### The Transmit Unit beyond its claims -/

/-- R151: the claims alone are touched. -/
@[simp] theorem Transmit.emptySlot_rest (tx : Transmit) :
    (tx.emptySlot).onLine = tx.onLine ∧ (tx.emptySlot).urgent = tx.urgent ∧
    (tx.emptySlot).statusPending = tx.statusPending ∧ (tx.emptySlot).changeMark = tx.changeMark ∧
    (tx.emptySlot).statusAttempts = tx.statusAttempts ∧ (tx.emptySlot).heartbeat = tx.heartbeat ∧
    (tx.emptySlot).spacing = tx.spacing ∧ (tx.emptySlot).isolatedMark = tx.isolatedMark ∧
    (tx.emptySlot).probeOffer = tx.probeOffer :=
  ⟨rfl, rfl, rfl, rfl, rfl, rfl, rfl, rfl, rfl⟩

/-- R151, R152: the claims alone are touched. -/
@[simp] theorem Transmit.freeSlot_rest (tx : Transmit) :
    (tx.freeSlot).onLine = tx.onLine ∧ (tx.freeSlot).urgent = tx.urgent ∧
    (tx.freeSlot).statusPending = tx.statusPending ∧ (tx.freeSlot).changeMark = tx.changeMark ∧
    (tx.freeSlot).statusAttempts = tx.statusAttempts ∧ (tx.freeSlot).heartbeat = tx.heartbeat ∧
    (tx.freeSlot).spacing = tx.spacing ∧ (tx.freeSlot).isolatedMark = tx.isolatedMark ∧
    (tx.freeSlot).probeOffer = tx.probeOffer := by
  unfold Transmit.freeSlot
  (repeat' split) <;> simp

/-- R151, R152: the claims alone are touched. -/
@[simp] theorem Transmit.takeClaim_rest (tx : Transmit) (f : Fan) :
    (tx.takeClaim f).onLine = tx.onLine ∧ (tx.takeClaim f).urgent = tx.urgent ∧
    (tx.takeClaim f).statusPending = tx.statusPending ∧ (tx.takeClaim f).changeMark = tx.changeMark ∧
    (tx.takeClaim f).statusAttempts = tx.statusAttempts ∧ (tx.takeClaim f).heartbeat = tx.heartbeat ∧
    (tx.takeClaim f).spacing = tx.spacing ∧ (tx.takeClaim f).isolatedMark = tx.isolatedMark ∧
    (tx.takeClaim f).probeOffer = tx.probeOffer := by
  unfold Transmit.takeClaim
  (repeat' split) <;> simp

/-- R151, R152: the claims alone are touched. -/
@[simp] theorem Transmit.withdraw_rest (tx : Transmit) (f : Fan) :
    (tx.withdraw f).onLine = tx.onLine ∧ (tx.withdraw f).urgent = tx.urgent ∧
    (tx.withdraw f).statusPending = tx.statusPending ∧ (tx.withdraw f).changeMark = tx.changeMark ∧
    (tx.withdraw f).statusAttempts = tx.statusAttempts ∧ (tx.withdraw f).heartbeat = tx.heartbeat ∧
    (tx.withdraw f).spacing = tx.spacing ∧ (tx.withdraw f).isolatedMark = tx.isolatedMark ∧
    (tx.withdraw f).probeOffer = tx.probeOffer := by
  unfold Transmit.withdraw
  (repeat' split) <;> simp

/-- R151, R152: the claims alone are touched. -/
@[simp] theorem Transmit.abandon_rest (tx : Transmit) (f : Fan) :
    (tx.abandon f).onLine = tx.onLine ∧ (tx.abandon f).urgent = tx.urgent ∧
    (tx.abandon f).statusPending = tx.statusPending ∧ (tx.abandon f).changeMark = tx.changeMark ∧
    (tx.abandon f).statusAttempts = tx.statusAttempts ∧ (tx.abandon f).heartbeat = tx.heartbeat ∧
    (tx.abandon f).spacing = tx.spacing ∧ (tx.abandon f).isolatedMark = tx.isolatedMark ∧
    (tx.abandon f).probeOffer = tx.probeOffer := by
  unfold Transmit.abandon
  (repeat' split) <;> simp

/-- R151, R152: the claims alone are touched. -/
@[simp] theorem Transmit.withdrawAll_rest (tx : Transmit) :
    (tx.withdrawAll).onLine = tx.onLine ∧ (tx.withdrawAll).urgent = tx.urgent ∧
    (tx.withdrawAll).statusPending = tx.statusPending ∧ (tx.withdrawAll).changeMark = tx.changeMark ∧
    (tx.withdrawAll).statusAttempts = tx.statusAttempts ∧ (tx.withdrawAll).heartbeat = tx.heartbeat ∧
    (tx.withdrawAll).spacing = tx.spacing ∧ (tx.withdrawAll).isolatedMark = tx.isolatedMark ∧
    (tx.withdrawAll).probeOffer = tx.probeOffer := by
  unfold Transmit.withdrawAll
  simp only
  split <;> simp

/-- A field of a choice of Transmit Units is the choice of the fields. -/
theorem Transmit.ite_fields (c : Prop) [Decidable c] (a b : Transmit) :
    (if c then a else b).onLine = (if c then a.onLine else b.onLine) ∧
    (if c then a else b).urgent = (if c then a.urgent else b.urgent) ∧
    (if c then a else b).statusPending = (if c then a.statusPending else b.statusPending) ∧
    (if c then a else b).changeMark = (if c then a.changeMark else b.changeMark) ∧
    (if c then a else b).statusAttempts = (if c then a.statusAttempts else b.statusAttempts) ∧
    (if c then a else b).heartbeat = (if c then a.heartbeat else b.heartbeat) ∧
    (if c then a else b).spacing = (if c then a.spacing else b.spacing) ∧
    (if c then a else b).isolatedMark = (if c then a.isolatedMark else b.isolatedMark) ∧
    (if c then a else b).probeOffer = (if c then a.probeOffer else b.probeOffer) := by
  split <;> simp

/-- The operation touches the claims of the Transmit Unit alone. -/
@[simp] theorem State.giveClaim_tx (s : State) (f : Fan) :
    (s.giveClaim f).tx.onLine = s.tx.onLine ∧ (s.giveClaim f).tx.urgent = s.tx.urgent ∧
    (s.giveClaim f).tx.statusPending = s.tx.statusPending ∧
    (s.giveClaim f).tx.changeMark = s.tx.changeMark ∧
    (s.giveClaim f).tx.statusAttempts = s.tx.statusAttempts ∧
    (s.giveClaim f).tx.heartbeat = s.tx.heartbeat ∧ (s.giveClaim f).tx.spacing = s.tx.spacing ∧
    (s.giveClaim f).tx.isolatedMark = s.tx.isolatedMark ∧
    (s.giveClaim f).tx.probeOffer = s.tx.probeOffer := by
  simp [State.giveClaim, State.ite_fields, Transmit.ite_fields]

/-- The operation touches the claims of the Transmit Unit alone. -/
@[simp] theorem State.handClaim_tx (s : State) (f : Fan) :
    (s.handClaim f).tx.onLine = s.tx.onLine ∧ (s.handClaim f).tx.urgent = s.tx.urgent ∧
    (s.handClaim f).tx.statusPending = s.tx.statusPending ∧
    (s.handClaim f).tx.changeMark = s.tx.changeMark ∧
    (s.handClaim f).tx.statusAttempts = s.tx.statusAttempts ∧
    (s.handClaim f).tx.heartbeat = s.tx.heartbeat ∧ (s.handClaim f).tx.spacing = s.tx.spacing ∧
    (s.handClaim f).tx.isolatedMark = s.tx.isolatedMark ∧
    (s.handClaim f).tx.probeOffer = s.tx.probeOffer := by
  simp [State.handClaim]

/-- The operation touches the claims of the Transmit Unit alone. -/
@[simp] theorem State.placeClaim_tx (s : State) (f : Fan) :
    (s.placeClaim f).tx.onLine = s.tx.onLine ∧ (s.placeClaim f).tx.urgent = s.tx.urgent ∧
    (s.placeClaim f).tx.statusPending = s.tx.statusPending ∧
    (s.placeClaim f).tx.changeMark = s.tx.changeMark ∧
    (s.placeClaim f).tx.statusAttempts = s.tx.statusAttempts ∧
    (s.placeClaim f).tx.heartbeat = s.tx.heartbeat ∧ (s.placeClaim f).tx.spacing = s.tx.spacing ∧
    (s.placeClaim f).tx.isolatedMark = s.tx.isolatedMark ∧
    (s.placeClaim f).tx.probeOffer = s.tx.probeOffer := by
  simp [State.placeClaim, State.ite_fields, Transmit.ite_fields]

/-- The operation touches the claims of the Transmit Unit alone. -/
@[simp] theorem State.placeClaims_tx (s : State) :
    (s.placeClaims).tx.onLine = s.tx.onLine ∧ (s.placeClaims).tx.urgent = s.tx.urgent ∧
    (s.placeClaims).tx.statusPending = s.tx.statusPending ∧
    (s.placeClaims).tx.changeMark = s.tx.changeMark ∧
    (s.placeClaims).tx.statusAttempts = s.tx.statusAttempts ∧
    (s.placeClaims).tx.heartbeat = s.tx.heartbeat ∧ (s.placeClaims).tx.spacing = s.tx.spacing ∧
    (s.placeClaims).tx.isolatedMark = s.tx.isolatedMark ∧
    (s.placeClaims).tx.probeOffer = s.tx.probeOffer := by
  simp [State.placeClaims]

/-- The operation touches the claims of the Transmit Unit alone. -/
@[simp] theorem State.abortClaim_tx (s : State) (f : Fan) :
    (s.abortClaim f).tx.onLine = s.tx.onLine ∧ (s.abortClaim f).tx.urgent = s.tx.urgent ∧
    (s.abortClaim f).tx.statusPending = s.tx.statusPending ∧ (s.abortClaim f).tx.changeMark = s.tx.changeMark ∧
    (s.abortClaim f).tx.statusAttempts = s.tx.statusAttempts ∧ (s.abortClaim f).tx.heartbeat = s.tx.heartbeat ∧
    (s.abortClaim f).tx.spacing = s.tx.spacing ∧ (s.abortClaim f).tx.isolatedMark = s.tx.isolatedMark ∧
    (s.abortClaim f).tx.probeOffer = s.tx.probeOffer := by
  unfold State.abortClaim
  (repeat' split) <;> simp

/-- The operation touches the claims of the Transmit Unit alone. -/
@[simp] theorem State.leaveStopped_tx (s : State) (f : Fan) :
    (s.leaveStopped f).tx.onLine = s.tx.onLine ∧ (s.leaveStopped f).tx.urgent = s.tx.urgent ∧
    (s.leaveStopped f).tx.statusPending = s.tx.statusPending ∧
    (s.leaveStopped f).tx.changeMark = s.tx.changeMark ∧
    (s.leaveStopped f).tx.statusAttempts = s.tx.statusAttempts ∧
    (s.leaveStopped f).tx.heartbeat = s.tx.heartbeat ∧ (s.leaveStopped f).tx.spacing = s.tx.spacing ∧
    (s.leaveStopped f).tx.isolatedMark = s.tx.isolatedMark ∧ (s.leaveStopped f).tx.probeOffer = s.tx.probeOffer := by
  unfold State.leaveStopped
  (repeat' split) <;> simp

/-- The operation touches the claims of the Transmit Unit alone. -/
@[simp] theorem State.endRundown_tx (s : State) (f : Fan) :
    (s.endRundown f).tx.onLine = s.tx.onLine ∧ (s.endRundown f).tx.urgent = s.tx.urgent ∧
    (s.endRundown f).tx.statusPending = s.tx.statusPending ∧ (s.endRundown f).tx.changeMark = s.tx.changeMark ∧
    (s.endRundown f).tx.statusAttempts = s.tx.statusAttempts ∧ (s.endRundown f).tx.heartbeat = s.tx.heartbeat ∧
    (s.endRundown f).tx.spacing = s.tx.spacing ∧ (s.endRundown f).tx.isolatedMark = s.tx.isolatedMark ∧
    (s.endRundown f).tx.probeOffer = s.tx.probeOffer := by
  simp [State.endRundown, State.ite_fields, Transmit.ite_fields]

/-- The operation touches the claims of the Transmit Unit alone. -/
@[simp] theorem State.enterRundown_tx (s : State) (f : Fan) :
    (s.enterRundown f).tx.onLine = s.tx.onLine ∧ (s.enterRundown f).tx.urgent = s.tx.urgent ∧
    (s.enterRundown f).tx.statusPending = s.tx.statusPending ∧
    (s.enterRundown f).tx.changeMark = s.tx.changeMark ∧
    (s.enterRundown f).tx.statusAttempts = s.tx.statusAttempts ∧
    (s.enterRundown f).tx.heartbeat = s.tx.heartbeat ∧ (s.enterRundown f).tx.spacing = s.tx.spacing ∧
    (s.enterRundown f).tx.isolatedMark = s.tx.isolatedMark ∧ (s.enterRundown f).tx.probeOffer = s.tx.probeOffer := by
  simp [State.enterRundown, State.ite_fields, Transmit.ite_fields]

/-- The operation touches the claims of the Transmit Unit alone. -/
@[simp] theorem State.answerNeed_tx (s : State) (f : Fan) :
    (s.answerNeed f).tx.onLine = s.tx.onLine ∧ (s.answerNeed f).tx.urgent = s.tx.urgent ∧
    (s.answerNeed f).tx.statusPending = s.tx.statusPending ∧ (s.answerNeed f).tx.changeMark = s.tx.changeMark ∧
    (s.answerNeed f).tx.statusAttempts = s.tx.statusAttempts ∧ (s.answerNeed f).tx.heartbeat = s.tx.heartbeat ∧
    (s.answerNeed f).tx.spacing = s.tx.spacing ∧ (s.answerNeed f).tx.isolatedMark = s.tx.isolatedMark ∧
    (s.answerNeed f).tx.probeOffer = s.tx.probeOffer := by
  unfold State.answerNeed
  (repeat' split) <;> simp

/-- The operation touches the claims of the Transmit Unit alone. -/
@[simp] theorem State.stage_tx (s : State) :
    (s.stage).tx.onLine = s.tx.onLine ∧ (s.stage).tx.urgent = s.tx.urgent ∧
    (s.stage).tx.statusPending = s.tx.statusPending ∧ (s.stage).tx.changeMark = s.tx.changeMark ∧
    (s.stage).tx.statusAttempts = s.tx.statusAttempts ∧ (s.stage).tx.heartbeat = s.tx.heartbeat ∧
    (s.stage).tx.spacing = s.tx.spacing ∧ (s.stage).tx.isolatedMark = s.tx.isolatedMark ∧
    (s.stage).tx.probeOffer = s.tx.probeOffer := by
  simp [State.stage]

/-- The operation touches the claims of the Transmit Unit alone. -/
@[simp] theorem State.fanReachesOpen_tx (s : State) (f : Fan) :
    (s.fanReachesOpen f).tx.onLine = s.tx.onLine ∧ (s.fanReachesOpen f).tx.urgent = s.tx.urgent ∧
    (s.fanReachesOpen f).tx.statusPending = s.tx.statusPending ∧
    (s.fanReachesOpen f).tx.changeMark = s.tx.changeMark ∧
    (s.fanReachesOpen f).tx.statusAttempts = s.tx.statusAttempts ∧
    (s.fanReachesOpen f).tx.heartbeat = s.tx.heartbeat ∧ (s.fanReachesOpen f).tx.spacing = s.tx.spacing ∧
    (s.fanReachesOpen f).tx.isolatedMark = s.tx.isolatedMark ∧
    (s.fanReachesOpen f).tx.probeOffer = s.tx.probeOffer := by
  simp [State.fanReachesOpen, State.ite_fields]

/-- The operation touches the claims of the Transmit Unit alone. -/
@[simp] theorem State.fanLeavesOpen_tx (s : State) (f : Fan) :
    (s.fanLeavesOpen f).tx.onLine = s.tx.onLine ∧ (s.fanLeavesOpen f).tx.urgent = s.tx.urgent ∧
    (s.fanLeavesOpen f).tx.statusPending = s.tx.statusPending ∧
    (s.fanLeavesOpen f).tx.changeMark = s.tx.changeMark ∧
    (s.fanLeavesOpen f).tx.statusAttempts = s.tx.statusAttempts ∧
    (s.fanLeavesOpen f).tx.heartbeat = s.tx.heartbeat ∧ (s.fanLeavesOpen f).tx.spacing = s.tx.spacing ∧
    (s.fanLeavesOpen f).tx.isolatedMark = s.tx.isolatedMark ∧
    (s.fanLeavesOpen f).tx.probeOffer = s.tx.probeOffer := by
  unfold State.fanLeavesOpen
  (repeat' split) <;> simp

/-- The operation touches the claims of the Transmit Unit alone. -/
@[simp] theorem State.reclaim_tx (s : State) (f : Fan) :
    (s.reclaim f).tx.onLine = s.tx.onLine ∧ (s.reclaim f).tx.urgent = s.tx.urgent ∧
    (s.reclaim f).tx.statusPending = s.tx.statusPending ∧ (s.reclaim f).tx.changeMark = s.tx.changeMark ∧
    (s.reclaim f).tx.statusAttempts = s.tx.statusAttempts ∧ (s.reclaim f).tx.heartbeat = s.tx.heartbeat ∧
    (s.reclaim f).tx.spacing = s.tx.spacing ∧ (s.reclaim f).tx.isolatedMark = s.tx.isolatedMark ∧
    (s.reclaim f).tx.probeOffer = s.tx.probeOffer := by
  simp [State.reclaim, State.ite_fields]

/-- The operation touches the claims of the Transmit Unit alone. -/
@[simp] theorem State.claimsGoLocal_tx (s : State) :
    (s.claimsGoLocal).tx.onLine = s.tx.onLine ∧ (s.claimsGoLocal).tx.urgent = s.tx.urgent ∧
    (s.claimsGoLocal).tx.statusPending = s.tx.statusPending ∧
    (s.claimsGoLocal).tx.changeMark = s.tx.changeMark ∧
    (s.claimsGoLocal).tx.statusAttempts = s.tx.statusAttempts ∧
    (s.claimsGoLocal).tx.heartbeat = s.tx.heartbeat ∧ (s.claimsGoLocal).tx.spacing = s.tx.spacing ∧
    (s.claimsGoLocal).tx.isolatedMark = s.tx.isolatedMark ∧ (s.claimsGoLocal).tx.probeOffer = s.tx.probeOffer := by
  simp [State.claimsGoLocal]

/-! ### Fan records -/

/-- R90: to hold s is to touch nothing else of the Fan Controller. -/
@[simp] theorem State.holdSetpoint_fans (s : State) :
    s.holdSetpoint.fans.units = s.fans.units ∧ s.holdSetpoint.fans.staging = s.fans.staging ∧
    s.holdSetpoint.fans.target = s.fans.target ∧ s.holdSetpoint.fans.starts = s.fans.starts ∧
    s.holdSetpoint.fans.begun = s.fans.begun := by
  unfold State.holdSetpoint
  split <;> exact ⟨rfl, rfl, rfl, rfl, rfl⟩

/-- R92 to R96: a change of a fan's state is its own record's, and the other fan keeps its whole record. -/
@[simp] theorem State.moveFan_fan (s : State) (f g : Fan) (st : FanState) :
    (s.moveFan f st).fan g = if g = f then (s.fan f).enter st else s.fan g := by
  simp [State.moveFan, State.fan, State.setFan]

/-- A change of fan state leaves the staging count, the target, the Start List and the claims started alone. -/
@[simp] theorem State.moveFan_fans (s : State) (f : Fan) (st : FanState) :
    (s.moveFan f st).fans.staging = s.fans.staging ∧ (s.moveFan f st).fans.target = s.fans.target ∧
    (s.moveFan f st).fans.starts = s.fans.starts ∧ (s.moveFan f st).fans.begun = s.fans.begun := by
  simp [State.moveFan]

@[simp] theorem FanUnit.enter_state (u : FanUnit) (st : FanState) : (u.enter st).state = st := rfl

@[simp] theorem State.setClaim_fan (s : State) (f g : Fan) (c : ClaimState) (b : Option Tu) :
    (s.setClaim f c b).fan g = if g = f then { s.fan f with claim := c, backoff := b } else s.fan g := by
  simp [State.setClaim]

/-- R100: the removal of an own entry takes its fan from STARTING to RUNNING and does nothing else to a fan's state. -/
theorem State.handRemoval_state (s : State) (e : ClaimEntry) (f : Fan) :
    ((s.handRemoval e).fan f).state =
      if f = e.fan ∧ e.origin = s.cfg.station ∧ (s.fan f).state = .starting then .running else (s.fan f).state := by
  unfold State.handRemoval
  by_cases h : e.origin = s.cfg.station ∧ (s.fan e.fan).state = .starting
  · rw [if_pos h]
    by_cases hf : f = e.fan
    · subst hf; simp [h]
    · simp [hf]
  · rw [if_neg h]
    by_cases hf : f = e.fan
    · subst hf; rw [if_neg (by tauto)]
    · simp [hf]

/-! ### The end of an event -/

/-- R112: a damper that passes into travel never becomes STUCK by it. -/
theorem DamperUnit.travelling_not_stuck (u : DamperUnit) (toOpen : Bool) (l : Limits) (e : Tu) :
    (u.travelling toOpen l e).state ≠ .stuck := by
  unfold DamperUnit.travelling
  (repeat' split) <;> simp

/-- R115: a change of a damper other than to STUCK leaves the Share Computer alone. -/
theorem State.handDamper_share (s : State) (d : DamperId) (a b : DamperState) (h : b ≠ .stuck) :
    (s.handDamper d a b).share = s.share := by
  unfold State.handDamper
  (repeat' split) <;> first | rfl | contradiction | simp

/-- R109: no pass is requested, and no demand moves, as the dampers answer their commands. -/
@[simp] theorem State.driveDamper_share (s : State) (d : DamperId) : (s.driveDamper d).share = s.share := by
  have go : (s.moveDamper d ((s.damper d).travelling (s.effectiveCommand d) (s.pins.limits.get d)
      s.travelExpiry)).share = s.share := by
    simp [State.moveDamper, State.handDamper_share _ _ _ _ (DamperUnit.travelling_not_stuck _ _ _ _)]
  unfold State.driveDamper
  simp only
  (repeat' split) <;> first | rfl | exact go

@[simp] theorem State.driveDampers_share (s : State) : s.driveDampers.share = s.share := by
  simp [State.driveDampers, State.driveExtracts, Ix4.all]

/-- R115: a change of a damper other than to STUCK leaves all but the claims of the Transmit Unit alone. -/
theorem State.handDamper_tx (s : State) (d : DamperId) (a b : DamperState) (h : b ≠ .stuck) :
    (s.handDamper d a b).tx.onLine = s.tx.onLine ∧ (s.handDamper d a b).tx.urgent = s.tx.urgent ∧
    (s.handDamper d a b).tx.statusPending = s.tx.statusPending ∧
    (s.handDamper d a b).tx.changeMark = s.tx.changeMark ∧
    (s.handDamper d a b).tx.statusAttempts = s.tx.statusAttempts ∧
    (s.handDamper d a b).tx.heartbeat = s.tx.heartbeat ∧ (s.handDamper d a b).tx.spacing = s.tx.spacing ∧
    (s.handDamper d a b).tx.isolatedMark = s.tx.isolatedMark ∧
    (s.handDamper d a b).tx.probeOffer = s.tx.probeOffer := by
  unfold State.handDamper
  (repeat' split) <;> first | contradiction | simp

/-- R109: the dampers' answers touch the claims of the Transmit Unit alone. -/
@[simp] theorem State.driveDamper_tx (s : State) (d : DamperId) :
    (s.driveDamper d).tx.onLine = s.tx.onLine ∧ (s.driveDamper d).tx.urgent = s.tx.urgent ∧
    (s.driveDamper d).tx.statusPending = s.tx.statusPending ∧
    (s.driveDamper d).tx.changeMark = s.tx.changeMark ∧
    (s.driveDamper d).tx.statusAttempts = s.tx.statusAttempts ∧
    (s.driveDamper d).tx.heartbeat = s.tx.heartbeat ∧ (s.driveDamper d).tx.spacing = s.tx.spacing ∧
    (s.driveDamper d).tx.isolatedMark = s.tx.isolatedMark ∧ (s.driveDamper d).tx.probeOffer = s.tx.probeOffer := by
  have go := State.handDamper_tx (s.setDamper d ((s.damper d).travelling (s.effectiveCommand d) (s.pins.limits.get d)
    s.travelExpiry)) d (s.damper d).state _ (DamperUnit.travelling_not_stuck (s.damper d) (s.effectiveCommand d)
    (s.pins.limits.get d) s.travelExpiry)
  unfold State.driveDamper
  simp only
  (repeat' split) <;> first | exact ⟨rfl, rfl, rfl, rfl, rfl, rfl, rfl, rfl, rfl⟩ | exact go

/-- R26, R109: the end of an event touches the claims of the Transmit Unit alone. -/
@[simp] theorem State.finish_tx (s : State) :
    s.finish.tx.onLine = s.tx.onLine ∧ s.finish.tx.urgent = s.tx.urgent ∧
    s.finish.tx.statusPending = s.tx.statusPending ∧ s.finish.tx.changeMark = s.tx.changeMark ∧
    s.finish.tx.statusAttempts = s.tx.statusAttempts ∧ s.finish.tx.heartbeat = s.tx.heartbeat ∧
    s.finish.tx.spacing = s.tx.spacing ∧ s.finish.tx.isolatedMark = s.tx.isolatedMark ∧
    s.finish.tx.probeOffer = s.tx.probeOffer := by
  simp [State.finish, State.driveDampers, State.driveExtracts, Ix4.all]

/-- R26: serving a request leaves the own record and the published results alone. -/
@[simp] theorem State.serve_share (s : State) :
    s.serve.share.cls = s.share.cls ∧ s.serve.share.demand = s.share.demand ∧
    s.serve.share.results = s.share.results ∧ s.serve.share.shortFlag = s.share.shortFlag := by
  unfold State.serve
  (repeat' split) <;> exact ⟨rfl, rfl, rfl, rfl⟩

/-- The end of an event leaves the own record and the published results alone. -/
@[simp] theorem State.finish_share (s : State) :
    s.finish.share.cls = s.share.cls ∧ s.finish.share.demand = s.share.demand ∧
    s.finish.share.results = s.share.results ∧ s.finish.share.shortFlag = s.share.shortFlag := by
  simp [State.finish]

/-- R111: a damper that follows its command, or is STUCK or not fitted, is not moved. -/
theorem State.driveDamper_of_follow (s : State) (d : DamperId)
    (h : (s.damper d).fitted = true → (s.damper d).state ≠ .stuck →
      (s.effectiveCommand d = true ↔ (s.damper d).state = .opened ∨ (s.damper d).state = .opening)) :
    s.driveDamper d = s := by
  unfold State.driveDamper
  by_cases hf : (s.damper d).fitted = true
  · rw [if_pos hf]
    have h := h hf
    cases hst : (s.damper d).state <;> cases hc : s.effectiveCommand d <;> simp_all
  · rw [if_neg hf]

/-- R26: with no request made, nothing is served. -/
theorem State.serve_of_none (s : State) (h : s.share.requested = false) : s.serve = s := by
  simp [State.serve, h]

/-! ### The claims started in an event (log entry 10) -/

/-- R99: the Start List's own operations start no claim. -/
@[simp] theorem State.takeEntry_begun (s : State) (e : ClaimEntry) : (s.takeEntry e).fans.begun = s.fans.begun := by
  have hand : ∀ (t : State) (x : ClaimEntry), (t.handRemoval x).fans.begun = t.fans.begun := by
    intro t x
    unfold State.handRemoval
    split <;> simp
  have drop : (s.dropSame e).fans.begun = s.fans.begun := by
    unfold State.dropSame
    split <;> simp [hand]
  have app : ∀ t : State, (t.appendClaim e).fans.begun = t.fans.begun := by
    intro t
    unfold State.appendClaim
    (repeat' split) <;> simp [hand]
  unfold State.takeEntry
  split <;> simp [app, drop]

/-- R99, R103, R151: to place a claim is to start none. -/
@[simp] theorem State.giveClaim_begun (s : State) (f : Fan) : (s.giveClaim f).fans.begun = s.fans.begun := by
  simp only [State.giveClaim, State.localClaim, State.decideClaim, State.startFan, State.enterBackoff, State.setClaim]
  (repeat' split) <;> simp

/-- To place a fan's claim clears its mark alone. -/
@[simp] theorem State.placeClaim_begun (s : State) (f : Fan) :
    (s.placeClaim f).fans.begun = s.fans.begun.set f false := by
  unfold State.placeClaim
  split
  · simp only
    split <;> simp
  · rename_i h
    cases f <;> simp only [PerFan.get, Bool.not_eq_true] at h <;> simp only [PerFan.set, ← h]

/-- A fan that has started no claim has none placed. -/
theorem State.placeClaim_of_none (s : State) (f : Fan) (h : s.fans.begun.get f = false) : s.placeClaim f = s := by
  simp [State.placeClaim, h]

/-- R101, R103: a claim that a fan has started, and that waits, is placed. -/
theorem State.placeClaim_of_waiting (s : State) (f : Fan) (h : s.fans.begun.get f = true)
    (w : (s.fan f).claim = .waiting) :
    s.placeClaim f = State.giveClaim { s with fans := { s.fans with begun := s.fans.begun.set f false } } f := by
  rw [State.placeClaim, if_pos h]
  exact if_pos w

/-- R103: with no claim started, none is placed. -/
theorem State.placeClaims_of_none (s : State) (h : s.fans.begun = PerFan.all false) : s.placeClaims = s := by
  have none : ∀ f, s.placeClaim f = s := fun f => s.placeClaim_of_none f (by simp [h])
  simp only [State.placeClaims, none]

/-- After the end of an event no claim is left to be placed. -/
@[simp] theorem State.finish_begun (s : State) : s.finish.fans.begun = PerFan.all false := by
  simp [State.finish, State.placeClaims, PerFan.set, PerFan.all]

/-- R103, R151: where one fan alone has started a claim in the event, and it waits, that claim is placed. -/
theorem State.placeClaims_of_one (s : State) (f : Fan) (h : s.fans.begun = (PerFan.all false).set f true)
    (w : (s.fan f).claim = .waiting) :
    s.placeClaims = State.giveClaim { s with fans := { s.fans with begun := PerFan.all false } } f := by
  cases f
  · rw [State.placeClaims, s.placeClaim_of_waiting .A (by simp [h]) w, State.placeClaim_of_none _ _ (by simp [h])]
    simp [h, PerFan.set, PerFan.all]
  · rw [State.placeClaims, s.placeClaim_of_none .A (by simp [h]), s.placeClaim_of_waiting .B (by simp [h]) w]
    simp [h, PerFan.set, PerFan.all]

/-! ### Claims and the dampers' commands (R92, R94, R109) -/

/-- R94, R109: a removal from the Start List changes no damper's command. -/
theorem State.handRemoval_wantsOpen (s : State) (e : ClaimEntry) (g : Fan) :
    ((s.handRemoval e).fan g).state.wantsOpen = (s.fan g).state.wantsOpen := by
  unfold State.handRemoval
  split
  · rename_i h
    by_cases hg : g = e.fan <;> simp_all [FanState.wantsOpen]
  · rfl

/-- R92, R103: a claim that is placed changes no damper's command. -/
theorem State.giveClaim_wantsOpen (s : State) (f g : Fan) :
    ((s.giveClaim f).fan g).state.wantsOpen = (s.fan g).state.wantsOpen := by
  have drop : ∀ (t : State) (e : ClaimEntry), ((t.dropSame e).fan g).state.wantsOpen = (t.fan g).state.wantsOpen := by
    intro t e
    unfold State.dropSame
    split
    · exact State.handRemoval_wantsOpen _ _ _
    · rfl
  have app : ∀ (t : State) (e : ClaimEntry), ((t.appendClaim e).fan g).state.wantsOpen = (t.fan g).state.wantsOpen := by
    intro t e
    unfold State.appendClaim
    (repeat' split) <;> first | rfl | exact State.handRemoval_wantsOpen _ _ _
  have take : ∀ (t : State) (e : ClaimEntry), ((t.takeEntry e).fan g).state.wantsOpen = (t.fan g).state.wantsOpen := by
    intro t e
    unfold State.takeEntry
    split <;> simp [app, drop]
  have set : ∀ (t : State) (c : ClaimState) (b : Option Tu), ((t.setClaim f c b).fan g).state = (t.fan g).state := by
    intro t c b
    cases f <;> cases g <;> rfl
  have start : ∀ t : State, ((t.startFan f).fan g).state.wantsOpen = (t.fan g).state.wantsOpen := by
    intro t
    unfold State.startFan
    split
    · rename_i h
      by_cases hg : g = f <;> simp_all [FanState.wantsOpen]
    · rw [set]
  unfold State.giveClaim State.localClaim State.decideClaim State.enterBackoff
  split
  · split
    · rw [start, take]
    · rw [set, take]
  · rfl

/-- R109, R111: where every damper follows its command, every damper follows it after a claim is placed. -/
theorem State.placeClaim_follow (s : State) (f : Fan) (h : s.DampersFollow) : (s.placeClaim f).DampersFollow := by
  have wants : ∀ g, ((s.placeClaim f).fan g).state.wantsOpen = (s.fan g).state.wantsOpen := by
    intro g
    unfold State.placeClaim
    simp only
    (repeat' split) <;> first | rfl | exact State.giveClaim_wantsOpen _ _ _
  have cmd : ∀ d, (s.placeClaim f).effectiveCommand d = s.effectiveCommand d := by
    intro d
    cases d <;>
      simp [State.effectiveCommand, State.ownerCommand, wants, State.transferOpen, State.facingClosed, State.preAlarmHit,
        State.cfg, State.damper]
  intro d
  rw [cmd]
  simpa [State.damper] using h d

/-- R111: where every damper follows its command already, the end of an event moves none: it places the claims and serves
the requests. -/
theorem State.finish_of_follow (s : State) (h : s.DampersFollow) : s.finish = s.placeClaims.serve := by
  have drive : ∀ (t : State) (d : DamperId), t.DampersFollow → t.driveDamper d = t :=
    fun t d ht => t.driveDamper_of_follow d (ht d)
  have a := s.placeClaim_follow .A h
  have b := (s.placeClaim .A).placeClaim_follow .B a
  have once : (s.placeClaim .A).placeClaim .A = s.placeClaim .A := State.placeClaim_of_none _ _ (by simp)
  have all : s.placeClaims.placeClaims = s.placeClaims := State.placeClaims_of_none _ (by
    simp [State.placeClaims, PerFan.set, PerFan.all])
  have extracts : s.driveExtracts = s.placeClaims := by
    rw [State.driveExtracts, drive _ _ a, State.placeClaims, once, drive _ _ b, State.placeClaims]
  rw [State.finish, State.driveDampers, extracts]
  simp [Ix4.all, drive _ _ (show s.placeClaims.DampersFollow from b), all]

/-! ### The service of requests -/

/-- R26: a request that finds the Share Computer IDLE with a valid record starts a pass, and one that does not sets
pass-again. -/
theorem State.serve_of_request (s : State) (h : s.share.requested = true) :
    (s.share.pass = none → s.recordValid = true → s.serve = s.startPass) ∧
    (s.share.pass ≠ none ∨ s.recordValid = false →
      s.serve = { s with share := { s.share with again := true, requested := false } }) := by
  unfold State.serve
  rw [if_pos h]
  constructor
  · intro hp hv
    simp [hp, hv]
  · intro hn
    rw [if_neg]
    rcases hn with hn | hn
    · cases hp : s.share.pass <;> simp_all
    · simp [hn]

/-- R26: after the end of an event no request is left over. -/
@[simp] theorem State.serve_requested (s : State) : s.serve.share.requested = false := by
  unfold State.serve
  split
  · split <;> rfl
  · rename_i h
    simpa using h

/-- An event that leaves every damper following its command, starts no claim and requests no pass ends as it stands. -/
theorem State.finish_of_settled (s : State) (h : s.DampersFollow) (hr : s.RequestsServed) : s.finish = s := by
  rw [s.finish_of_follow h, s.placeClaims_of_none hr.2, s.serve_of_none hr.1]

/-! ### The change of mode (R71) -/

/-- R71: the mode and its timers. -/
@[simp] theorem State.enterMode_zone (s : State) (m : Mode) :
    (s.enterMode m).zone = { s.zone with mode := m, listen := s.listenTimerFor m, purge := s.purgeTimerFor m } := by
  simp [State.enterMode, State.ite_fields]

/-- R71, R164: the forces. -/
@[simp] theorem State.enterMode_forces (s : State) (m : Mode) :
    (s.enterMode m).forces = if m.dropsForces then Forces.clear else s.forces := by
  simp [State.enterMode, State.ite_fields]

/-- R24: what the demand stage gives is what the present inputs give. -/
theorem State.recompute_share (s : State) :
    s.recompute.share.cls = s.classNow ∧ s.recompute.share.demand = s.demandNow ∧
    s.recompute.share.pass = s.share.pass ∧ s.recompute.share.again = s.share.again ∧
    s.recompute.share.results = s.share.results ∧ s.recompute.share.shortFlag = s.share.shortFlag := by
  unfold State.recompute
  split
  · rename_i h
    exact ⟨h.1.symm, h.2.symm, rfl, rfl, rfl, rfl⟩
  · simp [State.requestPass]

/-- A declaration's monitor (R62). -/
@[simp] theorem State.declare_monitor (s : State) (c : FireCause) :
    (s.declare c).monitor = { s.monitor with decl := .declared, cause := some c, confirm := none } := by
  simp [State.declare, State.ite_fields]

/-- A declaration's mode (R74). -/
@[simp] theorem State.declare_zone (s : State) (c : FireCause) :
    (s.declare c).zone = { s.zone with mode := .fire, listen := none, purge := none } := by
  simp [State.declare, State.ite_fields, State.listenTimerFor, State.purgeTimerFor]

/-- A declaration drops every force (R71). -/
@[simp] theorem State.declare_forces (s : State) (c : FireCause) : (s.declare c).forces = Forces.clear := by
  simp [State.declare, State.ite_fields, Mode.dropsForces]

/-! ### The Start List (R99) -/

/-- R99: the list that a claim leaves. Step 1 takes out an entry of its origin and fan, a claim that is not denied joins the
tail, and a list of 16 drops its head first. -/
theorem State.takeEntry_starts (s : State) (e : ClaimEntry) :
    (s.takeEntry e).fans.starts =
      let l := s.fans.starts.filter fun x => !e.sameClaim x
      if e.fire || decide (l.length < s.cfg.startLimit) then
        if l.length < Config.startListCapacity then l ++ [e] else l.tail ++ [e]
      else l := by
  have drop : (s.dropSame e).fans.starts = s.fans.starts.filter fun x => !e.sameClaim x := by
    unfold State.dropSame
    split
    · unfold State.handRemoval
      split <;> simp
    · rename_i h
      rw [List.filter_eq_self.mpr]
      intro x hx
      simp only [List.any_eq_true, not_exists, not_and] at h
      simpa using h x hx
  have cfg : (s.dropSame e).cfg = s.cfg := State.cfg_of_store (by simp)
  have app : ∀ t : State, (t.appendClaim e).fans.starts =
      if t.fans.starts.length < Config.startListCapacity then t.fans.starts ++ [e] else t.fans.starts.tail ++ [e] := by
    intro t
    unfold State.appendClaim
    split
    · rename_i h
      simp [h, Config.startListCapacity]
    · rename_i h tl h'
      simp only [h', List.length_cons, List.tail_cons]
      split
      · rfl
      · unfold State.handRemoval
        split <;> simp
  simp only [State.takeEntry, State.admits, drop, cfg]
  split
  · rw [app, drop]
  · exact drop

/-! ### The Peer View (R3 to R5) -/

/-- R3: an entry found is in the table and has the origin sought. -/
theorem lookupEntry_some {o : Station} {es : List PeerEntry} {p : PeerEntry} (h : lookupEntry o es = some p) :
    p ∈ es ∧ p.origin = o := by
  induction es with
  | nil => simp [lookupEntry] at h
  | cons e es ih =>
    unfold lookupEntry at h
    split at h
    · cases h; simp_all
    · split at h
      · cases h
      · exact ⟨List.mem_cons_of_mem _ (ih h).1, (ih h).2⟩

/-- R4: the table gains the new entry and keeps every other. -/
theorem mem_placeEntry {n e : PeerEntry} {es : List PeerEntry} : e ∈ placeEntry n es ↔ e = n ∨ e ∈ es := by
  induction es with
  | nil => simp [placeEntry]
  | cons x xs ih =>
    unfold placeEntry
    split
    · simp
    · simp only [List.mem_cons, ih]
      tauto

@[simp] theorem length_placeEntry (n : PeerEntry) (es : List PeerEntry) :
    (placeEntry n es).length = es.length + 1 := by
  induction es with
  | nil => rfl
  | cons x xs ih =>
    unfold placeEntry
    split <;> simp [ih]

/-- R1: the table stays in ascending order when an entry of a new origin is placed. -/
theorem placeEntry_ascending {n : PeerEntry} {es : List PeerEntry}
    (h : es.Pairwise fun a b => a.origin < b.origin) (new : ∀ e ∈ es, e.origin ≠ n.origin) :
    (placeEntry n es).Pairwise fun a b => a.origin < b.origin := by
  induction es with
  | nil => simp [placeEntry]
  | cons x xs ih =>
    have hx := List.pairwise_cons.mp h
    unfold placeEntry
    split
    · rename_i hlt
      refine List.pairwise_cons.mpr ⟨?_, h⟩
      intro b hb
      rcases List.mem_cons.mp hb with rfl | hb
      · exact hlt
      · exact lt_trans hlt (hx.1 b hb)
    · rename_i hge
      refine List.pairwise_cons.mpr ⟨?_, ih hx.2 fun e he => new e (List.mem_cons_of_mem _ he)⟩
      intro b hb
      rcases mem_placeEntry.mp hb with rfl | hb
      · exact lt_of_le_of_ne (not_lt.mp hge) (new x (List.mem_cons_self ..))
      · exact hx.1 b hb

/-- R3: in a table in ascending order, the entry of an origin is found. -/
theorem lookupEntry_of_mem {o : Station} {p : PeerEntry} {es : List PeerEntry}
    (h : es.Pairwise fun a b => a.origin < b.origin) (hp : p ∈ es) (ho : p.origin = o) :
    lookupEntry o es = some p := by
  induction es with
  | nil => cases hp
  | cons e es ih =>
    rw [List.pairwise_cons] at h
    rcases List.mem_cons.mp hp with rfl | hp
    · simp [lookupEntry, ho]
    · have hlt := h.1 p hp
      rw [ho] at hlt
      simp [lookupEntry, ne_of_lt hlt, not_lt_of_gt hlt, ih h.2 hp]

/-- R3: in a table in ascending order, an origin that is not found has no entry. -/
theorem lookupEntry_none {o : Station} {es : List PeerEntry} (h : es.Pairwise fun a b => a.origin < b.origin)
    (none : lookupEntry o es = none) : ∀ e ∈ es, e.origin ≠ o := by
  induction es with
  | nil => simp
  | cons x xs ih =>
    have hx := List.pairwise_cons.mp h
    unfold lookupEntry at none
    split at none
    · cases none
    · rename_i hne
      intro e he
      rcases List.mem_cons.mp he with rfl | he
      · exact hne
      · split at none
        · rename_i hlt
          exact fun heq => absurd (hx.1 e he) (by rw [heq]; exact not_lt.mpr hlt.le)
        · exact ih hx.2 none e he

/-- R10 to R12: an entry that takes new contents keeps its place. -/
theorem replaceEntry_ascending {n : PeerEntry} {es : List PeerEntry}
    (h : es.Pairwise fun a b => a.origin < b.origin) :
    (replaceEntry n es).Pairwise fun a b => a.origin < b.origin := by
  have same : ∀ e : PeerEntry, (if e.origin = n.origin then n else e).origin = e.origin := by
    intro e
    split <;> simp_all
  exact List.Pairwise.map _ (fun a b hab => by rw [same, same]; exact hab) h

/-- R5: the eviction candidate is an entry of the table and no neighbour. -/
theorem evictee_mem {now : Tu} {es : List PeerEntry} {c : PeerEntry} (h : evictee now es = some c) :
    c ∈ es ∧ c.isNeighbour = false := by
  induction es generalizing c with
  | nil => simp [evictee] at h
  | cons e es ih =>
    unfold evictee at h
    split at h
    · exact ⟨List.mem_cons_of_mem _ (ih h).1, (ih h).2⟩
    · cases h; simp_all
    · rename_i c' hn hr
      split at h
      · cases h
        exact ⟨List.mem_cons_of_mem _ (ih hr).1, (ih hr).2⟩
      · cases h; simp_all

/-- R4, R5: an admission never takes the table above its capacity. -/
theorem admitNewcomer_length {now : Tu} {n : PeerEntry} {es es' : List PeerEntry}
    (h : es.length ≤ Config.viewCapacity) (ad : admitNewcomer now n es = some es') :
    es'.length ≤ Config.viewCapacity := by
  unfold admitNewcomer at ad
  split at ad
  · cases ad
    simpa using ‹_›
  · split at ad
    · cases ad
    · rename_i c hc
      split at ad
      · cases ad
        have : (es.filter fun e => decide (e.origin ≠ c.origin)).length < es.length := by
          apply List.length_filter_lt_length_iff_exists.mpr
          exact ⟨c, (evictee_mem hc).1, by simp⟩
        simp only [length_placeEntry]
        omega
      · cases ad

/-! ### Counters -/

/-- R5, R104, R143, R146: a counter saturates. -/
theorem bump_eq_min (n : Nat) : bump n = min 65535 (n + 1) := by
  unfold bump Config.counterMax; split <;> omega

/-- R5, R104, R143, R146: a counter stays within its register. -/
theorem bump_le (n : Nat) : bump n ≤ Config.counterMax := by
  unfold bump
  split <;> omega

end Sys2Proof.Machine
end

