-- ==== Sys2Proof/Laws/PerInstr.lean ====
section
/-! SUPPORT. What holds of every command as syntax, one lemma for each constructor of `Instr`. -/

namespace Sys2Proof.Laws.NoWord

/-- No word spells the command: the table gives its row no bits (log entry 20). -/
def Statement (i : Instr) : Prop := ∀ nbits w : Nat, decodeTableWord nbits w ≠ some i

/-- The decoder spells no command at all. -/
theorem of_decoder (i : Instr) : Statement i := fun _ _ => nofun

theorem hardwareReset : Statement .hardwareReset := of_decoder _
theorem resetRelease (strap hold : Bool) : Statement (.resetRelease strap hold) := of_decoder _
theorem holdLineChange (dt : Tu) (active : Bool) : Statement (.holdLineChange dt active) := of_decoder _
theorem rawInputChange (dt : Tu) (input : InputId) (active : Bool) :
    Statement (.rawInputChange dt input active) := of_decoder _
theorem activation (dt : Tu) (input : InputId) : Statement (.activation dt input) := of_decoder _
theorem deactivation (dt : Tu) (input : InputId) : Statement (.deactivation dt input) := of_decoder _
theorem confirmationTimerExpiry (dt : Tu) : Statement (.confirmationTimerExpiry dt) := of_decoder _
theorem listenTimerExpiry (dt : Tu) : Statement (.listenTimerExpiry dt) := of_decoder _
theorem purgeTimerExpiry (dt : Tu) : Statement (.purgeTimerExpiry dt) := of_decoder _
theorem sampleEvent (dt : Tu) (readings : Quad Reading) : Statement (.sampleEvent dt readings) := of_decoder _
theorem sweep (dt : Tu) : Statement (.sweep dt) := of_decoder _
theorem digestZoneStatus (dt : Tu) : Statement (.digestZoneStatus dt) := of_decoder _
theorem digestFireAlarm (dt : Tu) : Statement (.digestFireAlarm dt) := of_decoder _
theorem digestFireReset (dt : Tu) : Statement (.digestFireReset dt) := of_decoder _
theorem passComplete (dt : Tu) : Statement (.passComplete dt) := of_decoder _
theorem setpointStep (dt : Tu) : Statement (.setpointStep dt) := of_decoder _
theorem backoffTimerExpiry (dt : Tu) (fan : Fan) : Statement (.backoffTimerExpiry dt fan) := of_decoder _
theorem startEntryExpiry (dt : Tu) : Statement (.startEntryExpiry dt) := of_decoder _
theorem rundownTimerExpiry (dt : Tu) (fan : Fan) : Statement (.rundownTimerExpiry dt fan) := of_decoder _
theorem tachPulse (dt : Tu) (fan : Fan) : Statement (.tachPulse dt fan) := of_decoder _
theorem provingWindowEnd (dt : Tu) (fan : Fan) : Statement (.provingWindowEnd dt fan) := of_decoder _
theorem limitChange (dt : Tu) (damper : DamperId) (limit : LimitId) (active : Bool) :
    Statement (.limitChange dt damper limit active) := of_decoder _
theorem travelTimerExpiry (dt : Tu) (damper : DamperId) : Statement (.travelTimerExpiry dt damper) := of_decoder _
theorem limitLossTimerExpiry (dt : Tu) (damper : DamperId) :
    Statement (.limitLossTimerExpiry dt damper) := of_decoder _
theorem lineIdle (idle : IdleRun) : Statement (.lineIdle idle) := of_decoder _
theorem frameStart (dt : Tu) : Statement (.frameStart dt) := of_decoder _
theorem contentionLost (dt : Tu) : Statement (.contentionLost dt) := of_decoder _
theorem bitError (dt : Tu) : Statement (.bitError dt) := of_decoder _
theorem lineStuckDetected (dt : Tu) : Statement (.lineStuckDetected dt) := of_decoder _
theorem lineStuckClear (dt : Tu) : Statement (.lineStuckClear dt) := of_decoder _
theorem frameCondemned (dt : Tu) (chars : List Byte) (framingError : Bool) :
    Statement (.frameCondemned dt chars framingError) := of_decoder _
theorem frameArrival (dt : Tu) (chars : List Byte) : Statement (.frameArrival dt chars) := of_decoder _
theorem heartbeatExpiry (dt : Tu) : Statement (.heartbeatExpiry dt) := of_decoder _
theorem spacingTimerExpiry (dt : Tu) : Statement (.spacingTimerExpiry dt) := of_decoder _
theorem probeInstant (dt : Tu) : Statement (.probeInstant dt) := of_decoder _
theorem serviceTimeout (dt : Tu) (chars : List Byte) : Statement (.serviceTimeout dt chars) := of_decoder _
theorem identify (dt : Tu) (req : Request) : Statement (.identify dt req) := of_decoder _
theorem readState (dt : Tu) (req : Request) : Statement (.readState dt req) := of_decoder _
theorem readPeer (dt : Tu) (req : Request) : Statement (.readPeer dt req) := of_decoder _
theorem readStarts (dt : Tu) (req : Request) : Statement (.readStarts dt req) := of_decoder _
theorem readPoints (dt : Tu) (req : Request) (live : LiveLines) :
    Statement (.readPoints dt req live) := of_decoder _
theorem modifyPoints (dt : Tu) (req : Request) : Statement (.modifyPoints dt req) := of_decoder _
theorem releasePoints (dt : Tu) (req : Request) : Statement (.releasePoints dt req) := of_decoder _
theorem fireReset (dt : Tu) (req : Request) : Statement (.fireReset dt req) := of_decoder _
theorem clearFaults (dt : Tu) (req : Request) : Statement (.clearFaults dt req) := of_decoder _
theorem loadRecord (dt : Tu) (req : Request) : Statement (.loadRecord dt req) := of_decoder _
theorem readRecord (dt : Tu) (req : Request) : Statement (.readRecord dt req) := of_decoder _
theorem recordWriteComplete (dt : Tu) : Statement (.recordWriteComplete dt) := of_decoder _
theorem anothersStartBit (dt : Tu) : Statement (.anothersStartBit dt) := of_decoder _
theorem responseSent (dt : Tu) : Statement (.responseSent dt) := of_decoder _
theorem serviceFramingError (dt : Tu) (chars : List Byte) :
    Statement (.serviceFramingError dt chars) := of_decoder _
theorem unknownCommand (dt : Tu) (code : Byte) (req : Request) :
    Statement (.unknownCommand dt code req) := of_decoder _

end Sys2Proof.Laws.NoWord
end

