-- ==== Sys2Proof/WellFormed.lean ====
section
/-! DEFINITION. Which commands the outside can send: the characters of a request, of a frame and of a partial request
are those that its row of the table names. A command that fails these checks stands for no event of the part, and what
it does is the model's own (log entry 19). -/

namespace Sys2Proof

open Sys2Proof.Machine

/-- R167: the length of a request is 0–200. -/
def Request.wellFormed (r : Request) : Bool := decide (r.data.length ≤ Config.requestMax)

/-- R166: characters that begin a request and do not complete it. After a length above 200 any run of characters goes
on without completing one. -/
def partialRequest : List Byte → Bool
  | [] => true
  | [_] => true
  | _ :: len :: rest => decide (Config.requestMax < len.toNat) || decide (rest.length < len.toNat + 1)

/-- R128: characters, or the stop bit of the last of them, that condemn a frame. -/
def condemning (chars : List Byte) (framingError : Bool) : Bool :=
  framingError || decide (judgeFrame chars = .bad)

/-- R128: the characters of a whole frame that passes every check. -/
def validFrame (chars : List Byte) : Bool :=
  match judgeFrame chars with
  | .valid _ => true
  | _ => false

/-- The checks of a command's operands. A command whose operands are all of enumerated types has none to fail. -/
def Instr.wellFormed : Instr → Bool
  | .hardwareReset => true
  | .resetRelease _ _ => true
  | .holdLineChange _ _ => true
  | .rawInputChange _ _ _ => true
  | .activation _ _ => true
  | .deactivation _ _ => true
  | .confirmationTimerExpiry _ => true
  | .listenTimerExpiry _ => true
  | .purgeTimerExpiry _ => true
  | .sampleEvent _ _ => true
  | .sweep _ => true
  | .digestZoneStatus _ => true
  | .digestFireAlarm _ => true
  | .digestFireReset _ => true
  | .passComplete _ => true
  | .setpointStep _ => true
  | .backoffTimerExpiry _ _ => true
  | .startEntryExpiry _ => true
  | .rundownTimerExpiry _ _ => true
  | .tachPulse _ _ => true
  | .provingWindowEnd _ _ => true
  | .limitChange _ _ _ _ => true
  | .travelTimerExpiry _ _ => true
  | .limitLossTimerExpiry _ _ => true
  | .lineIdle idle => decide (idle.run.toNat ≤ Config.idleRunTu)
  | .frameStart _ => true
  | .contentionLost _ => true
  | .bitError _ => true
  | .lineStuckDetected _ => true
  | .lineStuckClear _ => true
  | .frameCondemned _ chars framingError => condemning chars framingError
  | .frameArrival _ chars => validFrame chars
  | .heartbeatExpiry _ => true
  | .spacingTimerExpiry _ => true
  | .probeInstant _ => true
  | .serviceTimeout _ chars => partialRequest chars
  | .identify _ req => req.wellFormed
  | .readState _ req => req.wellFormed
  | .readPeer _ req => req.wellFormed
  | .readStarts _ req => req.wellFormed
  | .readPoints _ req _ => req.wellFormed
  | .modifyPoints _ req => req.wellFormed
  | .releasePoints _ req => req.wellFormed
  | .fireReset _ req => req.wellFormed
  | .clearFaults _ req => req.wellFormed
  | .loadRecord _ req => req.wellFormed
  | .readRecord _ req => req.wellFormed
  | .recordWriteComplete _ => true
  | .anothersStartBit _ => true
  | .responseSent _ => true
  | .serviceFramingError _ chars => partialRequest chars
  | .unknownCommand _ code req => decide (code ∉ commandCodes) && req.wellFormed

end Sys2Proof
end

