-- ==== Sys2Proof/Tests/Slice0.lean ====
section
/-! SUPPORT. Tests of the model: what the checks of WellFormed refuse, cases worked in the manual (each names its
section), and for every statement with hypotheses a state and operands that meet them (`witness_` and the statement's
name; where a statement has clauses over ranges, one at a boundary of each). -/

set_option maxRecDepth 20000

namespace Sys2Proof.Tests

open Sys2Proof Sys2Proof.Machine

/-! ### A commissioned station -/

/-- The record of station 8 of the worked cases: two fans of 500, C = 3000, Q = 250 ‰ (2.8), L = 2, W = 50 (6.10),
points SMOKE, SMOKE, HEAT and MANUAL, T_conf = 30 s, neighbours 7 and 9, TD0 to TD2 fitted. -/
def record8 : Record :=
  { station := 8, capacity := 3000, fanCount := 2, rating := 500, startLimit := 2, startWindow := 100, runDown := 50,
    provingWindow := 10, pulsesFull := 120, provingRatio := 700, period := 10, filters := [⟨7, 31⟩, ⟨9, 31⟩],
    types := ⟨.smoke, .smoke, .heat, .panel⟩, confirmTime := 30, purgeTime := 300,
    enables := ⟨true, true, false, false⟩, gains := Quad.all 1000, fume1 := ⟨300, 200⟩, fume2 := ⟨500, 400⟩,
    fume3 := ⟨750, 650⟩, fallback := 300, isolatedShare := 250, travelTimeout := 30,
    fitted := ⟨true, true, true, false⟩, facing := ⟨some 0, some 1, none, none⟩, idleLevel := 100, fume1Level := 300,
    fume2Level := 600, fume3Level := 900, normal := ⟨100, 200⟩, fireLevel := 1000, containLevel := 200,
    fire := ⟨200, 500⟩ }

/-- The bytes of that record (R171), with the checksum that makes them sum to 0. -/
def recordBytes : List Byte :=
  [8, 0x0B, 0xB8, 2, 0x01, 0xF4, 2, 0, 100, 0, 50, 10, 0, 120, 0x02, 0xBC, 10, 2, 7, 31, 9, 31, 0, 0, 0, 0, 0, 0, 0, 0] ++
  [1, 1, 2, 4, 0, 30, 0x01, 0x2C, 3, 0x03, 0xE8, 0x03, 0xE8, 0x03, 0xE8, 0x03, 0xE8, 0x01, 0x2C, 0, 200, 0x01, 0xF4] ++
  [0x01, 0x90, 0x02, 0xEE, 0x02, 0x8A, 0x01, 0x2C, 0, 250, 30, 7, 0, 1, 255, 255, 0, 100, 0x01, 0x2C, 0x02, 0x58] ++
  [0x03, 0x84, 0, 100, 0, 200, 0x03, 0xE8, 0, 200, 0, 200, 0x01, 0xF4, 186]

/-- R171, R172: the bytes are a valid record, and read as its fields. -/
theorem test_record_valid : judgeRecord recordBytes = some record8 := by decide

/-- R172: a record of the wrong sum is invalid. -/
theorem test_record_sum : judgeRecord (recordBytes.set 0 9) = none := by decide

/-- A fan of that record at rest. -/
def fan0 : FanUnit := { FanUnit.initial with window := some 10 }

/-- A damper that is fitted, in a state. -/
def fittedIn (st : DamperState) : DamperUnit := ⟨true, st, none, none, none⟩

/-- Station 8 in NORMAL at a step of the Time Base, quiet: fans stopped, transfer dampers open, the line idle. -/
def normal : State :=
  { State.reset with
    tu := 1000000
    released := true
    store := { bytes := recordBytes, record := some record8, writing := none }
    monitor := { State.reset.monitor with evaluation := true }
    zone := { State.reset.zone with mode := .normal }
    fans := { State.reset.fans with units := ⟨fan0, fan0⟩ }
    dampers := { ed := ⟨fittedIn .closed, fittedIn .closed⟩
                 td := ⟨fittedIn .opened, fittedIn .opened, fittedIn .opened, DamperUnit.unfitted⟩ }
    line := { State.reset.line with state := .idle } }

/-- The station is released, and a command that carries no time finds it as it stands. -/
abbrev Live (s : State) : Prop := s.released = true ∧ s.elapse 0 = s

/-- What a step answers, when it is a next state with a property. -/
def nextHas (o : Answer) (p : State → Bool) : Bool :=
  match o with
  | .next t => p t
  | _ => false

/-- A state in a mode. -/
def inMode (s : State) (m : Mode) : State := { s with zone := { s.zone with mode := m } }

/-- A state whose input has been raw for the 200 ms of a run. -/
def runDue (s : State) (i : InputId) (raw : Bool) : State :=
  { s with pins := { s.pins with raw := s.pins.raw.set i raw }
           monitor := { s.monitor with run := s.monitor.run.set i (some 998000)
                                       filtered := s.monitor.filtered.set i (!raw) } }

/-- The check that a decision can make of `State.DampersFollow`. -/
def follows (s : State) : Bool :=
  DamperId.all.all fun d => !(s.damper d).fitted || decide ((s.damper d).state = .stuck) ||
    (s.effectiveCommand d == (decide ((s.damper d).state = .opened) || decide ((s.damper d).state = .opening)))

theorem dampersFollow_of_follows {s : State} (h : follows s = true) : s.DampersFollow := by
  intro d hf hs
  have hd := List.all_eq_true.mp h d (by rcases d with (_ | _) | (_ | _ | _ | _) <;> decide)
  simp only [hf, hs, Bool.not_true, decide_false, Bool.or_false, Bool.false_or, beq_iff_eq] at hd
  simp [hd]

theorem normal_follows : normal.DampersFollow := dampersFollow_of_follows (by decide)

/-! ### What the checks of WellFormed refuse -/

/-- R167: 201 data bytes. -/
theorem test_refused_long_request : Instr.wellFormed (.identify 0 ⟨List.replicate 201 0, 0⟩) = false := by decide

/-- R166: a partial request that is complete, or more. -/
theorem test_refused_complete_request :
    Instr.wellFormed (.serviceTimeout 0 [0x11, 1, 5, 0]) = false ∧
    Instr.wellFormed (.serviceFramingError 0 [0x10, 0, 0xF0]) = false := by decide

/-- R128: a condemned frame that no check condemns. -/
theorem test_refused_sound_frame :
    Instr.wellFormed (.frameCondemned 0 (frameChars 9 (.claim .A false)) false) = false := by decide

/-- R128, R138: an arrival whose check does not agree. -/
theorem test_refused_bad_frame : Instr.wellFormed (.frameArrival 0 [67, 2, 0, 0, 0, 0]) = false := by decide

/-- R120: a recessive run of more than 19 bit times when the line becomes IDLE. -/
theorem test_refused_long_run : Instr.wellFormed (.lineIdle ⟨0, 6⟩) = false ∧ Instr.wellFormed (.lineIdle ⟨0, 5⟩) = true := by decide

/-- R167: a code of the command table offered as unknown. -/
theorem test_refused_known_code : Instr.wellFormed (.unknownCommand 0 0x41 (sealRequest 0x41 [])) = false := by decide


/-! ### Cases worked in the manual -/

/-- An entry of the view at 2.8: FRESH, heard at the moment. -/
def entry (o : Station) (cls : DemandClass) (demand : Nat) : PeerEntry :=
  { origin := o, hit := none, cls := cls, demand := demand, flags := PeerFlags.absent, period := 10, assumed := false,
    last := 1000000, fresh := .fresh, provisional := false }

/-- The view of the first case of 2.8. -/
def depot : List PeerEntry := [entry 4 .fire 1200, entry 5 .contain 240, entry 9 .fume3 800, entry 12 .fume1 300]

/-- The inputs that a pass of 2.8 samples. -/
def sampled (cls : DemandClass) (demand : Nat) (isolated : Bool) : Sampled :=
  { cls := cls, demand := demand, fmax := 1000, isolated := isolated, capacity := 3000, share := 250, started := 999960 }

/-- 2.8: the pass of the first case gives R_own 1560, S_own 1700, G 825, SHORT and t 825. -/
theorem test_pass_pro_rata :
    nextHas (exec (.passComplete 0) { normal with
      view := { normal.view with entries := depot }
      share := { normal.share with pass := some (sampled .fume3 900 false) } })
      (fun t => decide (t.share.results = ⟨825, .short, 1560, 1700, false, 825⟩) &&
        decide (t.fans.staging = 2) && decide ((t.fan .A).state = .waitDamper)) = true := by decide

/-- 2.8: stations 9 and 12 with the same records are granted 734 and 0. -/
theorem test_pass_of_the_others :
    passGrant [entry 4 .fire 1200, entry 5 .contain 240, entry 8 .fume3 900, entry 12 .fume1 300]
      (sampled .fume3 800 false) = 734 ∧
    passGrant [entry 4 .fire 1200, entry 5 .contain 240, entry 8 .fume3 900, entry 9 .fume3 800]
      (sampled .fume1 300 false) = 0 := by decide

/-- 2.8: the isolated rule grants 300 of 300, 750 of 900 and, in FIRE, 1000 of 1000. -/
theorem test_pass_isolated :
    passGrant depot (sampled .fume1 300 true) = 300 ∧ passGrant depot (sampled .fume3 900 true) = 750 ∧
    passGrant depot (sampled .fire 1000 true) = 1000 := by decide

/-- 2.8: at the arithmetic limits 16 fires of 2000 share 20 000, 1250 each. -/
theorem test_pass_limits :
    passGrant (List.replicate 15 (entry 1 .fire 2000)) { sampled .fire 2000 false with capacity := 20000 } = 1250 := by
  decide

/-- 3.9: channel 0 reads 560 after 375, 400 and 425, with a gain of 1500 ‰: f is 618, and the class rises to FUME2. -/
theorem test_sample_rises :
    nextHas (exec (.sampleEvent 0 ⟨⟨560, by decide⟩, ⟨300, by decide⟩, 0, 0⟩) { normal with
      store := { normal.store with record := some { record8 with gains := ⟨1500, 1000, 1000, 1000⟩ } }
      fume := { sampleExpiry := 1000000, index := 487, cls := .fume1,
                channels := { normal.fume.channels with x0 := ⟨.healthy, [100, 375, 400, 425], 0, 487⟩
                                                        x1 := ⟨.healthy, [125, 125, 125, 125], 0, 125⟩ } } })
      (fun t => decide (t.fume.index = 618) && decide (t.fume.cls = .fume2) && decide (t.share.cls = .fume2) &&
        decide (t.fume.channels.x0.history = [375, 400, 425, 450])) = true := by decide

/-- 3.9: the fifth faulty reading of channel 1 in a row gives the fallback 300, and the class falls two steps. -/
theorem test_sample_fallback :
    nextHas (exec (.sampleEvent 0 ⟨⟨296, by decide⟩, ⟨12, by decide⟩, 0, 0⟩) { normal with
      store := { normal.store with record := some { record8 with fume1 := ⟨300, 100⟩ } }
      fume := { sampleExpiry := 1000000, index := 810, cls := .fume3,
                channels := { normal.fume.channels with x0 := ⟨.healthy, [120, 120, 120, 120], 0, 120⟩
                                                        x1 := ⟨.holding, [540, 540, 540, 540], 4, 810⟩ } } })
      (fun t => decide (t.fume.index = 300) && decide (t.fume.cls = .fume1) && t.pointValue 33 && t.sensorFault) =
        true := by decide

/-- 4.9: the first SMOKE point gives PRE_ALARM with its timer 30 s ahead and own class FUME3. -/
theorem test_pre_alarm :
    nextHas (exec (.activation 0 (.point .i0)) (runDue normal (.point .i0) true)) (fun t =>
      decide (t.monitor.decl = .preAlarm) && decide (t.monitor.confirm = some 1300000) &&
      decide (t.share.cls = .fume3) && decide (t.zone.mode = .normal) && !t.ownerCommand (.td .i0)) = true := by decide

/-- 4.9: the second SMOKE point declares SMOKE_TWO, and a FIRE_ALARM with the fire demand is queued. -/
theorem test_double_knock :
    nextHas (exec (.activation 0 (.point .i1)) { runDue normal (.point .i1) true with
      monitor := { (runDue normal (.point .i1) true).monitor with
        filtered := ⟨⟨true, false, false, false⟩, false⟩, decl := .preAlarm, confirm := some 1150000 } })
      (fun t => decide (t.monitor.cause = some .smokeTwo) && decide (t.zone.mode = .fire) &&
        decide (t.tx.urgent = some (.fireAlarm .smokeTwo 1000)) && decide (t.monitor.confirm = none)) = true := by
  decide

/-- A station that burns from its point F2. -/
def burning : State :=
  { inMode normal .fire with
    monitor := { normal.monitor with decl := .declared, cause := some .heat,
                                     filtered := ⟨⟨false, false, true, false⟩, false⟩, latch := ⟨false, false, true, false⟩ }
    dampers := { normal.dampers with td := ⟨fittedIn .closed, fittedIn .closed, fittedIn .closed, DamperUnit.unfitted⟩ } }

/-- 4.9: while F2 is active a service FIRE RESET answers REFUSED_ACTIVE; once it rests the reset gives PURGE, and a second
one REFUSED_MODE. -/
theorem test_service_reset :
    nextHas (exec (.fireReset 0 (sealRequest 0x30 [])) burning) (fun t =>
      decide (t.port.response = responseChars 0x30 .refusedActive []) && decide (t.zone.mode = .fire)) = true ∧
    nextHas (exec (.fireReset 0 (sealRequest 0x30 []))
      { burning with monitor := { burning.monitor with filtered := Inputs.all false } }) (fun t =>
      decide (t.port.response = responseChars 0x30 .ok []) && decide (t.zone.mode = .purge) &&
      decide (t.tx.urgent = some (.fireReset .service)) && decide (t.zone.purge = some 4000000)) = true ∧
    nextHas (exec (.fireReset 0 (sealRequest 0x30 [])) (inMode normal .purge)) (fun t =>
      decide (t.port.response = responseChars 0x30 .refusedMode [])) = true := by decide

/-- 6.10: s moves by 10 a step; at s = 300 a fan alone turns at 600, at 500 and above at 1000, two fans at s. -/
theorem test_setpoint_and_speed :
    nextHas (exec (.setpointStep 0) { normal with fans := { normal.fans with
      target := 300, setpoint := 200, units := ⟨{ fan0 with state := .starting }, fan0⟩ } })
      (fun t => decide (t.fans.setpoint = 210) && decide (t.speedOutput .A = 420) && decide (t.speedOutput .B = 0)) =
        true ∧
    ({ normal with fans := { normal.fans with
      setpoint := 500, units := ⟨{ fan0 with state := .running }, fan0⟩ } } : State).speedOutput .A = 1000 ∧
    ({ normal with fans := { normal.fans with
      setpoint := 700, units := ⟨{ fan0 with state := .running }, { fan0 with state := .starting }⟩ } } : State).speedOutput
        .B = 700 ∧
    ({ normal with fans := { normal.fans with
      setpoint := 0, units := ⟨{ fan0 with state := .starting }, fan0⟩ } } : State).speedOutput .A = 200 := by decide

/-- The Start List of 6.10 at TU 1 020 000. -/
def starts2 : List ClaimEntry := [⟨3, .A, false, 1000000, 1100000⟩, ⟨8, .A, false, 1010000, 1110000⟩]

/-- 6.10: with L = 2 entries a claim of station 12 is denied, and a fire claim of station 4 admitted. -/
theorem test_admission :
    nextHas (exec (.frameArrival 0 (frameChars 12 (.claim .B false))) { normal with
      tu := 1020000, fans := { normal.fans with starts := starts2 }, line := { normal.line with state := .receiving }
      rx := { normal.rx with asm := .assembling } }) (fun t => decide (t.fans.starts = starts2)) = true ∧
    nextHas (exec (.frameArrival 0 (frameChars 4 (.claim .A true))) { normal with
      tu := 1022000, fans := { normal.fans with starts := starts2 }, line := { normal.line with state := .receiving }
      rx := { normal.rx with asm := .assembling } }) (fun t =>
        decide (t.fans.starts = starts2 ++ [⟨4, .A, true, 1022000, 1122000⟩])) = true := by decide

/-- A fan that runs alone at speed 600 at the end of a judged proving window (6.10). -/
def proving (pulses low : Nat) : State :=
  { normal with
    fans := { normal.fans with
      staging := 1, target := 300, setpoint := 300
      units := ⟨{ fan0 with state := .running, window := some 0, pulses := pulses, judge := true, low := low }, fan0⟩ }
    dampers := { normal.dampers with ed := ⟨fittedIn .opened, fittedIn .closed⟩ } }

/-- 6.10: 50 pulses are low and 51 good; the third low window in a row makes the fan FAULTED, and fan B is needed. -/
theorem test_proving :
    nextHas (exec (.provingWindowEnd 0 .A) (proving 50 0)) (fun t => decide ((t.fan .A).low = 1)) = true ∧
    nextHas (exec (.provingWindowEnd 0 .A) (proving 51 2)) (fun t => decide ((t.fan .A).low = 0)) = true ∧
    nextHas (exec (.provingWindowEnd 0 .A) (proving 30 2)) (fun t => decide ((t.fan .A).state = .faulted) &&
      decide ((t.fan .A).cause = some .proving) && decide (t.fmaxEff = 500) && !t.effectiveCommand (.ed .A) &&
      decide ((t.fan .B).state = .waitDamper) && !t.faultRelayDrive) = true := by decide

/-- 8.9: the identifiers of a FIRE_ALARM of 9, a START_CLAIM of 3 and a ZONE_STATUS of 4. -/
theorem test_identifiers :
    (frameChars 9 (.urgent (.fireAlarm .heat 0))).head? = some 9 ∧ (frameChars 3 (.claim .A false)).head? = some 67 ∧
    (frameChars 4 (.status .idle 0 PeerFlags.absent 10)).head? = some 100 := by decide

/-- 8.9: 50 bit times of a 60-bit START_CLAIM, 70 of a FIRE_ALARM and 90 of a ZONE_STATUS, ten a character. -/
theorem test_frame_lengths :
    (frameChars 3 (.claim .A false)).length = 6 ∧ (frameChars 9 (.urgent (.fireAlarm .heat 0))).length = 7 ∧
    (frameChars 4 (.status .idle 0 PeerFlags.absent 10)).length = 9 ∧
    (frameChars 7 (.urgent (.fireReset .key))).length = 5 := by decide

/-- 9.10: filter 2, of value 16 and mask 28, matches 17 and not 21; the lowest filter wins. -/
theorem test_hits :
    hitOf [⟨7, 31⟩, ⟨9, 31⟩, ⟨16, 28⟩] 17 = some 2 ∧ hitOf [⟨7, 31⟩, ⟨9, 31⟩, ⟨16, 28⟩] 21 = none ∧
    hitOf [⟨7, 31⟩, ⟨9, 31⟩, ⟨16, 28⟩] 9 = some 1 ∧ hitOf [⟨8, 24⟩, ⟨9, 31⟩] 9 = some 0 := by decide

/-- 11.5: in HOLD, MODIFY base 72, mask 4, value 4 sends TD0 OPENING; mask 132 is REFUSED_POINT; the read of 74 to 81. -/
theorem test_forcing :
    nextHas (exec (.modifyPoints 0 (sealRequest 0x21 [72, 4, 4])) { inMode normal .hold with
      dampers := { normal.dampers with td := ⟨fittedIn .closed, DamperUnit.unfitted, DamperUnit.unfitted,
                                              DamperUnit.unfitted⟩ } })
      (fun t => decide (t.damper (.td .i0) = ⟨true, .opening, some 1300000, none, none⟩) && t.pointValue 74 &&
        decide (t.port.response = responseChars 0x21 .ok [])) = true ∧
    nextHas (exec (.modifyPoints 0 (sealRequest 0x21 [72, 132, 4])) (inMode normal .hold)) (fun t =>
      decide (t.port.response = responseChars 0x21 .refusedPoint []) && decide (t.forces = Forces.clear)) = true := by
  decide

/-- 11.5: with forces on 74 and 81, a read of base 72, displacement 2 and count 8 answers 1, 0, 0, 0, 0, 0, 0, 1. -/
theorem test_read_points :
    nextHas (exec (.readPoints 0 (sealRequest 0x20 [72, 2, 8]) ⟨false, false, false⟩) { inMode normal .hold with
      forces := { Forces.clear with dampers := Forces.clear.dampers.set (.td .i0) ⟨true, true⟩, fault := ⟨true, true⟩ }
      fans := normal.fans })
      (fun t => decide (t.port.response = responseChars 0x20 .ok [1, 0, 0, 0, 0, 0, 0, 1])) = true := by decide

/-- 11.2: base 120 with displacement 10 is refused. -/
theorem test_read_points_refused :
    nextHas (exec (.readPoints 0 (sealRequest 0x20 [120, 10, 1]) ⟨false, false, false⟩) normal)
      (fun t => decide (t.port.response = responseChars 0x20 .badArg [])) = true := by decide

/-- 11.5, R164: the hold line released drops the force on TD0, which reverses into CLOSING. Its owner command is closed here
by a pre-alarmed neighbour that TD0 faces (R83), since R82 has the zone transfer command open in LISTEN (log entry 29). -/
theorem test_forces_drop :
    nextHas (exec (.holdLineChange 0 false) { inMode normal .hold with
      pins := { normal.pins with hold := true }
      monitor := State.reset.monitor
      dampers := { normal.dampers with td := ⟨fittedIn .opened, DamperUnit.unfitted, DamperUnit.unfitted,
                                              DamperUnit.unfitted⟩ }
      store := { normal.store with record := some { record8 with facing := ⟨some 0, none, none, none⟩ } }
      view := { normal.view with entries := [{ entry 7 .fume3 0 with hit := some 0, flags := ⟨true, false, false, false⟩ }] }
      forces := { Forces.clear with dampers := Forces.clear.dampers.set (.td .i0) ⟨true, true⟩ } })
      (fun t => decide (t.zone.mode = .listen) && decide (t.forces = Forces.clear) && decide (t.zone.listen = some 1020000) &&
        decide (t.damper (.td .i0) = ⟨true, .closing, some 1300000, none, none⟩)) = true := by decide

/-! ### Reset and the hold line -/

/-- A station in reset, with a valid record stored. -/
def inReset : State := { State.reset with store := { normal.store with record := none } }

theorem witness_StepRunsTheFrontCommand : ({ normal with pending := [] } : State).pending = [] := by decide

theorem witness_NothingMovesBeforeRelease :
    inReset.released = false ∧ Instr.rawInputChange 5 .key true ≠ .hardwareReset ∧
    ∀ strap hold, Instr.rawInputChange 5 .key true ≠ .resetRelease strap hold :=
  ⟨by decide, by decide, nofun⟩

theorem witness_HardwareResetRestores : ∃ r, (judgeRecord normal.store.bytes).getD Record.absent = r := ⟨_, rfl⟩

/-- R174: the release of a station with a valid record and the hold line inactive enters LISTEN. -/
theorem witness_ResetReleaseStarts :
    normal.released = true ∧ inReset.released = false ∧ inReset.zone.mode = .hold ∧ inReset.store.writing = none ∧
    nextHas (exec (.resetRelease true false) inReset) (fun t => decide (t.zone.mode = .listen) &&
      decide (t.line.rate = .r115200) && decide (t.damper (.td .i0) = ⟨true, .opening, some 300000, none, none⟩)) =
      true := by decide

/-- R174: without a valid record the release stays in HOLD. -/
theorem witness_ResetReleaseStarts_invalid :
    judgeRecord State.reset.store.bytes = none ∧
    nextHas (exec (.resetRelease false false) State.reset) (fun t => decide (t.zone.mode = .hold) &&
      decide (t.causeCode = 11)) = true := by decide

/-- R110: the four cases of the limits, with the hold line active (closed commands) and inactive (TD0 to open). -/
theorem witness_ResetReleaseStarts_dampers :
    let at' := fun (l : Limits) (hold : Bool) =>
      exec (.resetRelease false hold) { inReset with pins := { inReset.pins with limits := PerDamper.all l } }
    judgeRecord inReset.store.bytes = some record8 ∧ record8.fanCount = 2 ∧ record8.fitted.get .i0 = true ∧
    (inReset.damper (.td .i0) = DamperUnit.unfitted) ∧ (inReset.fan .A).state = .stopped ∧
    nextHas (at' ⟨true, true⟩ true) (fun t =>
      decide (t.damper (.td .i0) = ⟨true, .stuck, none, none, some .bothLimits⟩) &&
      decide ((t.fan .A).cause = some .damper)) = true ∧
    nextHas (at' ⟨true, false⟩ true) (fun t => decide (t.damper (.ed .A) = ⟨true, .closing, some 300000, none, none⟩) &&
      decide (t.damper (.td .i0) = ⟨true, .closing, some 300000, none, none⟩)) = true ∧
    nextHas (at' ⟨false, true⟩ true) (fun t => decide (t.damper (.td .i0) = fittedIn .closed)) = true ∧
    nextHas (at' ⟨false, false⟩ true) (fun t => decide (t.damper (.td .i0) = ⟨true, .closing, some 300000, none, none⟩)) =
      true ∧
    nextHas (at' ⟨true, false⟩ false) (fun t => decide (t.damper (.td .i0) = fittedIn .opened)) = true ∧
    nextHas (at' ⟨false, true⟩ false) (fun t => decide (t.damper (.td .i0) = ⟨true, .opening, some 300000, none, none⟩)) =
      true := by decide

/-- Station 8 in HOLD, its hold line active and its transfer dampers closed. -/
def holding : State :=
  { inMode normal .hold with
    pins := { normal.pins with hold := true }
    monitor := State.reset.monitor
    dampers := { normal.dampers with td := burning.dampers.td } }

theorem witness_HoldLineLeavesHold :
    Live holding ∧ holding.zone.mode = .hold ∧ holding.recordValid = true ∧ holding.store.writing = none := by decide

theorem witness_HoldLineLeavesHold_other :
    Live normal ∧ normal.zone.mode ≠ .hold ∧
    (State.recordValid { holding with store := State.reset.store }) = false ∧
    ({ holding with store := { holding.store with writing := some ⟨[], 0⟩ } } : State).store.writing ≠ none := by decide

/-- R56, R61: what the start of evaluation finds, cause by cause, with every lower cause beside it. -/
theorem witness_HoldLineLeavesHold_points :
    let found := fun (ty : Quad PointType) (f : Quad Bool) (conf : Nat) => exec (.holdLineChange 0 false) { holding with
      store := { holding.store with record := some { record8 with types := ty, confirmTime := conf } }
      monitor := { holding.monitor with filtered := ⟨f, false⟩ } }
    let declares := fun (o : Answer) (c : FireCause) => nextHas o fun t =>
      decide (t.zone.mode = .fire) && decide (t.tx.urgent = some (.fireAlarm c 1000))
    let all := Quad.all true
    declares (found ⟨.smoke, .heat, .manual, .panel⟩ all 0) .heat = true ∧
    declares (found ⟨.smoke, .smoke, .manual, .panel⟩ all 0) .manual = true ∧
    declares (found ⟨.smoke, .smoke, .unused, .panel⟩ all 0) .panel = true ∧
    declares (found ⟨.smoke, .smoke, .heat, .panel⟩ ⟨true, true, false, false⟩ 30) .smokeTwo = true ∧
    declares (found ⟨.smoke, .smoke, .heat, .panel⟩ ⟨false, true, false, false⟩ 0) .smokeConfirmed = true ∧
    nextHas (found ⟨.smoke, .smoke, .heat, .panel⟩ ⟨false, true, false, false⟩ 30) (fun t =>
      decide (t.monitor.decl = .preAlarm) && decide (t.zone.mode = .listen) &&
      decide (t.monitor.confirm = some 1300000)) = true ∧
    nextHas (found ⟨.smoke, .smoke, .heat, .unused⟩ ⟨false, false, false, true⟩ 30) (fun t =>
      decide (t.monitor.decl = .clear) && decide (t.zone.mode = .listen)) = true ∧
    nextHas (found ⟨.smoke, .heat, .manual, .panel⟩ all 0) (fun t =>
      decide (t.monitor.latch = ⟨false, true, true, false⟩)) = true := by decide

/-! ### The Fire Point Monitor -/

theorem witness_RawChangeRunsTheFilter : Live normal ∧ normal.monitor.filtered.get .key = false := by decide

/-- The point F2 of `record8` is of type HEAT. -/
theorem witness_FirePointDeclares :
    let u := runDue normal (.point .i2) true
    Live u ∧ u.monitor.run.get (.point .i2) = some 998000 ∧ reached u.tu (tuAfter 998000 2000) = true ∧
    u.pins.raw.get (.point .i2) = true ∧ u.monitor.filtered.get (.point .i2) = false ∧ u.monitor.evaluation = true ∧
    u.monitor.decl ≠ .declared ∧ u.cfg.types.get .i2 = .heat := by decide

/-- F3 is of type PANEL. -/
theorem witness_FirePointDeclares_panel : normal.cfg.types.get .i3 = .panel := by decide

theorem witness_SmokePointPreAlarms :
    let u := runDue normal (.point .i0) true
    Live u ∧ u.monitor.run.get (.point .i0) = some 998000 ∧ reached u.tu (tuAfter 998000 2000) = true ∧
    u.pins.raw.get (.point .i0) = true ∧ u.monitor.filtered.get (.point .i0) = false ∧ u.monitor.evaluation = true ∧
    u.cfg.types.get .i0 = .smoke ∧ u.monitor.decl = .clear ∧ 0 < u.cfg.confirmTime ∧ u.zone.mode = .normal ∧
    (u.forces.dampers.get (.td .i0)).flag = false ∧ (u.damper (.td .i0)).fitted = true ∧ u.tx.spacing = none ∧
    nextHas (exec (.activation 0 (.point .i0)) u) (fun t => t.tx.changeMark && t.tx.statusPending &&
      decide ((t.damper (.td .i0)).state = .closing) && decide (t.share.demand = 900)) = true := by decide

/-- The boundary T_conf = 0. -/
theorem witness_SmokePointPreAlarms_at_once :
    nextHas (exec (.activation 0 (.point .i0)) { runDue normal (.point .i0) true with
      store := { normal.store with record := some { record8 with confirmTime := 0 } } })
      (fun t => decide (t.monitor.cause = some .smokeConfirmed) && decide (t.zone.mode = .fire)) = true := by decide

/-- A pre-alarm from F0. -/
def preAlarmed : State :=
  { normal with
    monitor := { normal.monitor with filtered := ⟨⟨true, false, false, false⟩, false⟩, decl := .preAlarm,
                                     confirm := some 1000000 }
    dampers := burning.dampers }

theorem witness_SmokePointPreAlarms_second :
    let u := runDue preAlarmed (.point .i1) true
    Live u ∧ u.monitor.decl = .preAlarm ∧ Ix4.i0 ≠ .i1 ∧ u.cfg.types.get .i0 = .smoke ∧
    u.monitor.filtered.get (.point .i0) = true := by decide

theorem witness_DeactivationEndsPreAlarm :
    let u := runDue preAlarmed (.point .i0) false
    Live u ∧ u.monitor.run.get (.point .i0) = some 998000 ∧ reached u.tu (tuAfter 998000 2000) = true ∧
    u.pins.raw.get (.point .i0) = false ∧ u.monitor.filtered.get (.point .i0) = true ∧ u.monitor.evaluation = true ∧
    u.monitor.decl = .preAlarm ∧ u.cfg.types.get .i0 = .smoke ∧ u.monitor.filtered.get (.point .i1) = false := by decide

theorem witness_ConfirmationDeclares :
    Live preAlarmed ∧ preAlarmed.monitor.evaluation = true ∧ preAlarmed.monitor.decl = .preAlarm ∧
    preAlarmed.monitor.confirm = some 1000000 ∧ reached preAlarmed.tu 1000000 = true := by decide

/-- A fire whose point is at rest again, with the key turned for 200 ms. -/
def keyed : State := { runDue burning .key true with
  monitor := { (runDue burning .key true).monitor with filtered := Inputs.all false } }

theorem witness_KeyResetsTheFire :
    Live keyed ∧ keyed.monitor.run.get .key = some 998000 ∧ reached keyed.tu (tuAfter 998000 2000) = true ∧
    keyed.pins.raw.get .key = true ∧ keyed.monitor.filtered.get .key = false ∧ keyed.zone.mode = .fire ∧
    Ix4.all.all (fun p => !keyed.physicallyActive p) = true ∧
    (runDue burning .key true).physicallyActive .i2 = true := by decide

/-! ### The Mode Controller -/

theorem witness_ListenAndPurgeEndInNormal :
    let l := { inMode normal .listen with zone := { normal.zone with mode := .listen, listen := some 1000000 } }
    let p := { inMode normal .purge with zone := { normal.zone with mode := .purge, purge := some 1000000 } }
    Live l ∧ l.zone.listen = some 1000000 ∧ l.zone.mode = .listen ∧
    Live p ∧ p.zone.purge = some 1000000 ∧ p.zone.mode = .purge ∧ reached 1000000 1000000 = true := by decide

theorem witness_FireModesCloseTransferDampers :
    burning.zone.mode = .fire ∧ burning.forces = Forces.clear ∧ burning.effectiveCommand (.td .i0) = false ∧
    normal.forces = Forces.clear ∧ normal.effectiveCommand (.td .i0) = true ∧ preAlarmed.zone.mode = .normal ∧
    preAlarmed.monitor.decl = .preAlarm ∧ preAlarmed.effectiveCommand (.td .i0) = false ∧
    (inMode preAlarmed .purge).effectiveCommand (.td .i0) = false := by decide

/-- Two causes stand, and the higher one is told. -/
theorem test_cause_code : burning.causeCode = 1 ∧ normal.causeCode = 0 ∧ holding.causeCode = 11 ∧
    ({ normal with line := { normal.line with isolated := true } } : State).causeCode = 4 := by decide

/-! ### The Fume Monitor -/

/-- The sample timer has come. -/
def sampling (c0 : FumeChannel) : State :=
  { normal with fume := { normal.fume with sampleExpiry := 1000000, channels := { normal.fume.channels with x0 := c0 } } }

theorem witness_SampleEventTakesReadings :
    Live (sampling .initial) ∧ reached (sampling .initial).tu (sampling .initial).fume.sampleExpiry = true ∧
    (sampling .initial).recordValid = true ∧ (sampling .initial).cfg.enables.get .i0 = true ∧
    (sampling .initial).cfg.enables.get .i2 = false := by decide

/-- 3.1: the readings at the ends of the good range, and just outside it. -/
theorem witness_SampleEventTakesReadings_range :
    rawIndex 180 = 0 ∧ rawIndex 200 = 0 ∧ rawIndex 1000 = 1000 ∧ rawIndex 1010 = 1000 ∧
    nextHas (exec (.sampleEvent 0 ⟨⟨180, by decide⟩, 0, 0, 0⟩) (sampling .initial))
      (fun t => decide (t.fume.channels.x0 = ⟨.healthy, [0, 0, 0, 0], 0, 0⟩)) = true ∧
    nextHas (exec (.sampleEvent 0 ⟨⟨1010, by decide⟩, 0, 0, 0⟩) (sampling .initial))
      (fun t => decide (t.fume.channels.x0 = ⟨.healthy, [1000, 1000, 1000, 1000], 0, 1000⟩)) = true ∧
    nextHas (exec (.sampleEvent 0 ⟨⟨179, by decide⟩, 0, 0, 0⟩) (sampling .initial))
      (fun t => decide (t.fume.channels.x0 = ⟨.holding, [], 1, 0⟩)) = true ∧
    nextHas (exec (.sampleEvent 0 ⟨⟨1011, by decide⟩, 0, 0, 0⟩) (sampling ⟨.holding, [], 3, 0⟩))
      (fun t => decide (t.fume.channels.x0 = ⟨.holding, [], 4, 0⟩)) = true ∧
    nextHas (exec (.sampleEvent 0 ⟨⟨1011, by decide⟩, 0, 0, 0⟩) (sampling ⟨.holding, [], 4, 0⟩))
      (fun t => decide (t.fume.channels.x0 = ⟨.faulted, [], 4, 300⟩)) = true := by decide

theorem witness_FumeClassHasHysteresis :
    let u := sampling .initial
    Live u ∧ reached u.tu u.fume.sampleExpiry = true ∧ u.recordValid = true ∧ u.cfg.fume1.lower < u.cfg.fume1.upper ∧
    u.cfg.fume2.lower < u.cfg.fume2.upper ∧ u.cfg.fume3.lower < u.cfg.fume3.upper ∧
    u.cfg.fume1.upper < u.cfg.fume2.upper ∧ u.cfg.fume2.upper < u.cfg.fume3.upper ∧
    u.cfg.fume1.lower < u.cfg.fume2.lower ∧ u.cfg.fume2.lower < u.cfg.fume3.lower := by decide

/-! ### The Peer View -/

theorem witness_SweepAgesTheView :
    Live normal ∧ normal.tu.toNat % 1000 = 0 ∧ normal.recordValid = true ∧ normal.share.requested = false ∧
    normal.share.pass = none := by decide

/-- R14 at its boundaries, with a period of 10 s: an age of 40 s is FRESH, of 160 s STALE; a TU more is STALE, and LOST for a
neighbour and deleted for another station. -/
theorem witness_SweepAgesTheView_ages :
    let aged := fun (f : Freshness) (hit : Option FilterIx) (age : Tu) =>
      ({ normal with view := { normal.view with
        entries := [{ entry 9 .idle 0 with hit := hit, fresh := f, last := normal.tu - age * 10 }] } } : State)
    nextHas (exec (.sweep 0) (aged .fresh none 4000)) (fun t => decide (t.view.entries.map (·.fresh) = [.fresh])) = true ∧
    nextHas (exec (.sweep 0) (aged .fresh none 4001)) (fun t => decide (t.view.entries.map (·.fresh) = [.stale])) = true ∧
    nextHas (exec (.sweep 0) (aged .stale (some 1) 16000)) (fun t => decide (t.view.entries.map (·.fresh) = [.stale])) =
      true ∧
    nextHas (exec (.sweep 0) (aged .stale (some 1) 16001)) (fun t => decide (t.view.entries.map (·.fresh) = [.lost])) =
      true ∧
    nextHas (exec (.sweep 0) (aged .stale none 16001)) (fun t => decide (t.view.entries = [])) = true := by decide

/-- A frame at the head of FIFO B, or of FIFO A. -/
def withFrame (s : State) (x : FifoEntry) (inA : Bool) : State :=
  { s with rx := if inA then { s.rx with fifoA := [x] } else { s.rx with fifoB := [x] } }

/-- A ZONE_STATUS from station 9, heard at 999990. -/
def status9 (cls : Byte) (demand : BitVec 16) (period : Byte) : FifoEntry :=
  ⟨9, some 1, 999990, .zoneStatus cls demand PeerFlags.absent period⟩

/-- The view holds station 9. -/
def knows9 : State :=
  { normal with view := { normal.view with entries := [{ entry 9 .idle 0 with hit := some 1, last := 999000 }] } }

/-- The bounds of R9: class 5, demand 2000, periods 5 and 50; with an entry of the origin and without. -/
theorem witness_StatusUpdatesItsEntry :
    let u := withFrame knows9 (status9 5 2000 5) false
    Live u ∧ u.ReadyToDigest ∧ u.TakesNext (status9 5 2000 5) [] [] ∧ u.NotEarlier (status9 5 2000 5) ∧
    (∃ p ∈ u.view.entries, p.origin = 9) ∧
    (withFrame normal (status9 0 0 50) false).ReadyToDigest ∧
    (withFrame normal (status9 0 0 50) false).TakesNext (status9 0 0 50) [] [] ∧
    (withFrame normal (status9 0 0 50) false).view.entries.length < 24 ∧
    (status9 5 2000 5).origin = 9 := by
  unfold State.ReadyToDigest State.RequestsServed State.TakesNext State.NotEarlier State.Ordered; decide

/-- A FIRE_ALARM from station 9. -/
def alarm9 (demand : BitVec 16) : FifoEntry := ⟨9, some 1, 999990, .fireAlarm demand⟩

theorem witness_AlarmMakesAFireEntry :
    let u := withFrame knows9 (alarm9 2000) true
    Live u ∧ u.ReadyToDigest ∧ u.TakesNext (alarm9 2000) [] [] ∧ u.NotEarlier (alarm9 2000) ∧
    (∃ p ∈ u.view.entries, p.origin = 9) ∧ (withFrame normal (alarm9 0) true).view.entries.length < 24 := by
  unfold State.ReadyToDigest State.RequestsServed State.TakesNext State.NotEarlier State.Ordered; decide

/-- Frames just out of range, and one that is earlier than its entry. -/
theorem witness_DiscardedFramesChangeNothing :
    let late : FifoEntry := ⟨9, some 1, 998999, .fireReset⟩
    Live (withFrame knows9 late true) ∧ (withFrame knows9 late true).ReadyToDigest ∧
    (withFrame knows9 late true).TakesNext late [] [] ∧ ¬ (withFrame knows9 late true).NotEarlier late ∧
    nextHas (exec (.digestFireReset 0) (withFrame knows9 late true))
      (fun t => decide (t.view = knows9.view) && decide (t.rx.fifoA = []) && decide (t.rx.errors = 0)) = true ∧
    nextHas (exec (.digestZoneStatus 0) (withFrame knows9 (status9 6 0 10) false))
      (fun t => decide (t.view = knows9.view) && decide (t.rx.errors = 1)) = true ∧
    nextHas (exec (.digestZoneStatus 0) (withFrame knows9 (status9 5 2001 10) false))
      (fun t => decide (t.rx.errors = 1)) = true ∧
    nextHas (exec (.digestZoneStatus 0) (withFrame knows9 (status9 5 0 4) false)) (fun t => decide (t.rx.errors = 1)) =
      true ∧
    nextHas (exec (.digestZoneStatus 0) (withFrame knows9 (status9 5 0 51) false)) (fun t => decide (t.rx.errors = 1)) =
      true ∧
    nextHas (exec (.digestFireAlarm 0) (withFrame knows9 (alarm9 2001) true)) (fun t => decide (t.rx.errors = 1)) =
      true := by
  unfold State.ReadyToDigest State.RequestsServed State.TakesNext State.NotEarlier State.Ordered; decide

theorem witness_DiscardedFramesChangeNothing_follow :
    (withFrame knows9 (status9 6 0 10) false).DampersFollow := dampersFollow_of_follows (by decide)

theorem witness_NeighbourFireContains :
    let u := withFrame knows9 (alarm9 2000) true
    Live u ∧ u.ReadyToDigest ∧ u.TakesNext (alarm9 2000) [] [] ∧ u.NotEarlier (alarm9 2000) ∧
    (∃ p ∈ u.view.entries, p.origin = (alarm9 2000).origin ∧ p.hit ≠ none) ∧ u.zone.contain = [] ∧
    u.zone.mode = .normal ∧
    nextHas (exec (.digestFireAlarm 0) u) (fun t => decide (t.zone = ⟨.contain, [9], none, none⟩) &&
      !t.effectiveCommand (.td .i0)) = true ∧
    nextHas (exec (.digestZoneStatus 0) (withFrame knows9 (status9 5 0 10) false)) (fun t =>
      decide (t.zone.contain = [9])) = true ∧
    (alarm9 2000).hit ≠ none ∧ (withFrame normal (alarm9 0) true).view.entries.length < 24 := by
  unfold State.ReadyToDigest State.RequestsServed State.TakesNext State.NotEarlier State.Ordered; decide

/-- A station that contains the fire of station 9. -/
def contained : State :=
  { knows9 with zone := ⟨.contain, [9], none, none⟩, dampers := burning.dampers }

theorem witness_FireResetEndsContainment :
    let x : FifoEntry := ⟨9, some 1, 999990, .fireReset⟩
    let u := withFrame contained x true
    Live u ∧ u.ReadyToDigest ∧ u.TakesNext x [] [] ∧ u.NotEarlier x ∧ 9 ∈ u.zone.contain ∧
    (∀ q ∈ u.zone.contain, q = 9) ∧ u.zone.mode = .contain ∧
    nextHas (exec (.digestFireReset 0) u) (fun t => decide (t.zone.mode = .normal) &&
      decide (t.view.entries.map (·.cls) = [.fume3])) = true := by
  unfold State.ReadyToDigest State.RequestsServed State.TakesNext State.NotEarlier State.Ordered; decide

/-- R78 at its boundaries: classes 0 and 4 from the neighbour end its fire, 5 does not; nor does a station that is no
neighbour. -/
theorem witness_FireResetEndsContainment_status :
    let u := withFrame contained (status9 4 0 5) false
    let far : FifoEntry := ⟨12, none, 999990, .zoneStatus 0 0 PeerFlags.absent 10⟩
    Live u ∧ u.ReadyToDigest ∧ u.TakesNext (status9 4 0 5) [] [] ∧ u.NotEarlier (status9 4 0 5) ∧
    (∃ p ∈ u.view.entries, p.origin = 9 ∧ p.hit ≠ none) ∧
    nextHas (exec (.digestZoneStatus 0) u) (fun t => decide (t.zone = ⟨.normal, [], none, none⟩)) = true ∧
    nextHas (exec (.digestZoneStatus 0) (withFrame contained (status9 0 0 5) false)) (fun t =>
      decide (t.zone.mode = .normal)) = true ∧
    nextHas (exec (.digestZoneStatus 0) (withFrame contained (status9 5 0 5) false)) (fun t =>
      decide (t.zone = contained.zone)) = true ∧
    (withFrame contained far false).ReadyToDigest ∧ (withFrame contained far false).TakesNext far [] [] ∧
    (∀ e ∈ contained.view.entries, e.origin ≠ far.origin) ∧ far.hit = none ∧
    nextHas (exec (.digestZoneStatus 0) (withFrame contained far false)) (fun t => decide (t.zone = contained.zone)) =
      true := by
  unfold State.ReadyToDigest State.RequestsServed State.TakesNext State.NotEarlier State.Ordered; decide

/-- 24 entries from station 1 on, the own number and 30 and 31 left out; station 20 alone is of class IDLE. -/
def full : State :=
  { normal with
    view := { normal.view with
      entries := ((List.finRange 32).filter fun o => decide (0 < o.val) && decide (o.val < 26) && decide (o.val ≠ 8)).map
        fun o => entry o (if o = 20 then .idle else .fume1) 10 }
    rx := { normal.rx with fifoB := [⟨30, none, 999990, .zoneStatus 0 5 PeerFlags.absent 10⟩] } }

theorem witness_FullViewEvictsTheLowest :
    Live full ∧ full.ReadyToDigest ∧ full.TakesNext ⟨30, none, 999990, .zoneStatus 0 5 PeerFlags.absent 10⟩ [] [] ∧
    full.view.entries.length = 24 ∧ (∀ e ∈ full.view.entries, e.origin ≠ 30) ∧ entry 20 .idle 10 ∈ full.view.entries ∧
    (∀ e ∈ full.view.entries, e ≠ entry 20 .idle 10 → e.hit = none →
      (entry 20 .idle 10).cls.num < e.cls.num ∨ (entry 20 .idle 10).cls = e.cls ∧
        (full.tu - e.last).toNat < (full.tu - (entry 20 .idle 10).last).toNat) ∧
    nextHas (exec (.digestZoneStatus 0) full) (fun t => decide (t.view.entries.length = 24) &&
      t.view.entries.any (fun e => decide (e.origin = 30)) && !t.view.entries.any (fun e => decide (e.origin = 20))) =
      true := by
  unfold State.ReadyToDigest State.RequestsServed State.TakesNext State.Ordered; decide

/-- R5, R11: a FIRE_ALARM evicts the candidate even from a table of class FIRE alone. -/
theorem witness_FullViewEvictsTheLowest_alarm :
    let x : FifoEntry := ⟨30, none, 999990, .fireAlarm 2000⟩
    let u := { withFrame full x true with
      view := { full.view with
        entries := full.view.entries.map fun e => { e with cls := .fire, last := 1000000 - BitVec.ofNat 32 e.origin.val } } }
    nextHas (exec (.digestFireAlarm 0) u) (fun t => decide (t.view.entries.length = 24) &&
      t.view.entries.any (fun e => decide (e.origin = 30) && decide (e.cls = .fire) && e.assumed) &&
      !t.view.entries.any (fun e => decide (e.origin = 25)) && decide (t.view.refused = 0)) = true := by decide

/-- R5: with the candidate above it, a newcomer that is no neighbour is refused and counted. -/
theorem witness_FullViewEvictsTheLowest_refused :
    nextHas (exec (.digestZoneStatus 0) { full with view := { full.view with
      entries := full.view.entries.map fun e => { e with cls := .fume1, last := 1000000 - BitVec.ofNat 32 e.origin.val } } })
      (fun t => decide (t.view.refused = 1) && !t.view.entries.any (fun e => decide (e.origin = 30))) = true := by decide

/-! ### The Share Computer and the Fan Controller -/

/-- A pass in flight over the view of 2.8. -/
def inPass : State :=
  { normal with view := { normal.view with entries := depot }
                share := { normal.share with pass := some (sampled .fume3 900 false) } }

theorem witness_PassPublishesItsResults :
    Live inPass ∧ inPass.share.pass = some (sampled .fume3 900 false) ∧ inPass.share.requested = false ∧
    reached inPass.tu (tuAfter (sampled .fume3 900 false).started 1) = true := by decide

theorem witness_PassPublishesItsResults_sums : ∃ S : DemandClass → Nat, ∀ k,
    S k = ((inPass.view.entries.filter fun e =>
      (decide (e.fresh ≠ .lost) || decide (e.cls = .fire)) && decide (e.cls = k)).map fun e => e.demand).sum +
        (if (sampled .fume3 900 false).cls = k then (sampled .fume3 900 false).demand else 0) := ⟨_, fun _ => rfl⟩

/-- R7, R14, R16, R20: what the freeze held is taken at the completion, and a change of the table starts the next pass. -/
theorem witness_PassPublishesItsResults_held :
    let held := fun (sweep empty : Bool) => exec (.passComplete 0) { inPass with
      view := { inPass.view with pendingSweep := sweep, pendingEmpty := empty
                                 entries := [{ entry 9 .idle 0 with last := 1000000 - 40010 }] } }
    nextHas (held true false) (fun t => decide (t.view.entries.map (·.fresh) = [.stale]) && !t.view.pendingSweep &&
      t.share.pass.isSome) = true ∧
    nextHas (held false true) (fun t => decide (t.view.entries = []) && !t.view.pendingEmpty && t.share.pass.isSome) =
      true ∧
    nextHas (held false false) (fun t => decide (t.view.entries.map (·.fresh) = [.fresh]) && t.share.pass.isNone) =
      true := by decide

/-- R89 at its boundaries: targets 500, 499 and 401 with the count 2 before, and 400. -/
theorem witness_PassPublishesItsResults_staging :
    let after := fun (d staging : Nat) =>
      exec (.passComplete 0) { normal with
        share := { normal.share with pass := some (sampled .fume1 d false) }
        fans := { normal.fans with staging := staging } }
    nextHas (after 500 0) (fun t => decide (t.fans.staging = 2)) = true ∧
    nextHas (after 499 0) (fun t => decide (t.fans.staging = 1)) = true ∧
    nextHas (after 401 2) (fun t => decide (t.fans.staging = 2)) = true ∧
    nextHas (after 400 2) (fun t => decide (t.fans.staging = 1)) = true ∧
    nextHas (after 0 2) (fun t => decide (t.fans.staging = 0) && decide (t.share.results.flag = .nil)) = true := by decide

/-- Two stations that count the same records: they share the trunk. -/
theorem witness_GrantsFitTheTrunk :
    let a : List PeerEntry × Sampled := ([entry 9 .fume3 2000], { sampled .fume3 1500 false with capacity := 3000 })
    let b : List PeerEntry × Sampled := ([entry 8 .fume3 1500], { sampled .fume3 2000 false with capacity := 3000 })
    let depot := [a, b]
    (∀ x ∈ depot, x.2.capacity = 3000 ∧ x.2.isolated = false ∧ (∀ e ∈ x.1, e.fresh ≠ .lost) ∧
      List.Perm ((x.2.cls, x.2.demand) :: x.1.map fun e => (e.cls, e.demand))
        (depot.map fun y => (y.2.cls, y.2.demand))) ∧
    (depot.map fun x => passGrant x.1 x.2).sum = 2999 := by decide

/-- Fan A in a state, behind an open extract damper where it needs one; station 8 needs it. -/
def fanIn (u : FanUnit) (ed : DamperState) : State :=
  { normal with
    fans := { normal.fans with staging := 1, target := 300, units := ⟨u, fan0⟩ }
    dampers := { normal.dampers with ed := ⟨fittedIn ed, fittedIn .closed⟩ } }

theorem witness_SetpointAndSpeedFollowTheTarget :
    let u := fanIn { fan0 with state := .running } .opened
    Live u ∧ u.tu.toNat % 1000 = 0 ∧ (u.fan .A).state = .running ∧ u.runOutput .A = true ∧ u.runOutput .B = false ∧
    u.availableCount = 2 ∧ (tuAfter u.tu 1).toNat % 1000 ≠ 0 ∧ u.cfg.normal.ramp / 10 = 10 := by decide

/-- R90 at its boundaries: a difference of the ramp's tenth reaches the target, one more does not. -/
theorem witness_SetpointAndSpeedFollowTheTarget_ramp :
    let at' := fun (x : Nat) => exec (.setpointStep 0) { fanIn { fan0 with state := .running } .opened with
      fans := { (fanIn { fan0 with state := .running } .opened).fans with setpoint := x } }
    nextHas (at' 290) (fun t => decide (t.fans.setpoint = 300)) = true ∧
    nextHas (at' 289) (fun t => decide (t.fans.setpoint = 299)) = true ∧
    nextHas (at' 310) (fun t => decide (t.fans.setpoint = 300)) = true ∧
    nextHas (at' 311) (fun t => decide (t.fans.setpoint = 301)) = true := by decide

/-- Fan A waits with its backoff at its end. -/
def backedOff (starts : List ClaimEntry) (isolated : Bool) : State :=
  let s := fanIn { fan0 with state := .waitSlot, claim := .backoff, backoff := some 1000000 } .opened
  { s with fans := { s.fans with starts := starts }, line := { s.line with isolated := isolated } }

theorem witness_ClaimTimersAnswer :
    Live (backedOff [] false) ∧ ((backedOff [] false).fan .A).state = .waitSlot ∧
    ((backedOff [] false).fan .A).claim = .backoff ∧ ((backedOff [] false).fan .A).backoff = some 1000000 ∧
    reached (backedOff [] false).tu 1000000 = true ∧
    nextHas (exec (.backoffTimerExpiry 0 .A) (backedOff [] false)) (fun t =>
      decide (t.tx.slot = some ⟨.A, .waiting⟩) && decide ((t.fan .A).claim = .waiting)) = true := by decide

/-- R103, R99: with one entry of L = 2 a local claim is admitted, with two it is denied. -/
theorem witness_ClaimTimersAnswer_local :
    nextHas (exec (.backoffTimerExpiry 0 .A) (backedOff (starts2.take 1) true)) (fun t =>
      decide ((t.fan .A).state = .starting) && decide (t.fans.starts.length = 2)) = true ∧
    nextHas (exec (.backoffTimerExpiry 0 .A) (backedOff [⟨3, .A, false, 990000, 1090000⟩, ⟨8, .B, false, 995000, 1095000⟩]
      true)) (fun t => decide ((t.fan .A).state = .waitSlot) && decide ((t.fan .A).backoff = some 1005000)) = true := by
  decide

/-- The own entry of fan A, then another station's, at their expiry. -/
theorem witness_ClaimTimersAnswer_entries :
    let own : ClaimEntry := ⟨8, .A, false, 900000, 1000000⟩
    let u := { fanIn { fan0 with state := .starting } .opened with
      fans := { (fanIn { fan0 with state := .starting } .opened).fans with starts := [own] } }
    Live u ∧ u.fans.starts = [own] ∧ reached u.tu own.expiry = true ∧ own.origin = u.cfg.station ∧
    (u.fan own.fan).state = .starting ∧ (3 : Station) ≠ u.cfg.station ∧
    nextHas (exec (.startEntryExpiry 0) u) (fun t => decide ((t.fan .A).state = .running) &&
      decide (t.fans.starts = [])) = true := by decide

/-- A fan whose run-down ends, needed or not. -/
def rundown (needed : Bool) (ed : DamperState) : State :=
  let s := fanIn { fan0 with state := .rundown, rundown := some 1000000 } ed
  { s with fans := { s.fans with staging := if needed then 1 else 0 } }

theorem witness_RundownEndsInStopped :
    Live (rundown false .opened) ∧ (rundown false .opened).RequestsServed ∧ (rundown true .opened).RequestsServed ∧
    ((rundown false .opened).fan .A).state = .rundown ∧ ((rundown false .opened).fan .A).rundown = some 1000000 ∧
    reached (rundown false .opened).tu 1000000 = true ∧ ((rundown false .opened).fan .A).claim = .none ∧
    (rundown false .opened).needed .A = false ∧ (rundown true .opened).needed .A = true ∧
    ((rundown true .opened).damper (.ed .A)).state = .opened ∧ (rundown true .opened).line.isolated = false ∧
    (rundown true .opened).tx.slot = none ∧ ((rundown true .opening).damper (.ed .A)).state ≠ .stuck := by
  unfold State.RequestsServed; decide

theorem witness_RundownEndsInStopped_follow :
    (rundown false .opened).DampersFollow ∧ (rundown true .opened).DampersFollow ∧ (rundown true .opening).DampersFollow :=
  ⟨dampersFollow_of_follows (by decide), dampersFollow_of_follows (by decide), dampersFollow_of_follows (by decide)⟩

/-- The judged window of 6.10: low at 50 pulses, not at 51. -/
theorem witness_ProvingWindowIsJudged :
    let u := proving 50 2
    Live u ∧ u.RequestsServed ∧ u.fanFitted .A = true ∧ 0 < u.cfg.provingWindow ∧
    (u.fan .A).window = some 0 ∧ (u.fan .A).judge = true ∧ (u.fan .A).state = .running ∧ 2 ≤ (u.fan .A).low ∧
    (u.fan .A).pulses * 1000000 < u.cfg.pulsesFull * u.speedOutput .A * u.cfg.provingRatio ∧
    ¬ ((proving 51 1).fan .A).pulses * 1000000 < u.cfg.pulsesFull * u.speedOutput .A * u.cfg.provingRatio ∧
    ((proving 50 1).fan .A).low < 2 := by unfold State.RequestsServed; decide

theorem witness_ProvingWindowIsJudged_follow : (proving 50 2).DampersFollow := dampersFollow_of_follows (by decide)

/-- R104: the pulse count saturates. -/
theorem witness_ProvingWindowIsJudged_pulse :
    nextHas (exec (.tachPulse 0 .A) (proving 65535 0)) (fun t => decide ((t.fan .A).pulses = 65535)) = true ∧
    nextHas (exec (.tachPulse 0 .A) (proving 65534 0)) (fun t => decide ((t.fan .A).pulses = 65535)) = true := by decide

/-! ### The Damper Controller -/

/-- A damper of station 8 in a state, with its limits, under an owner that commands it so. -/
def tdIn (u : DamperUnit) (l : Limits) (mode : Mode) : State :=
  { inMode normal mode with
    dampers := { normal.dampers with td := ⟨u, DamperUnit.unfitted, DamperUnit.unfitted, DamperUnit.unfitted⟩ }
    pins := { normal.pins with limits := normal.pins.limits.set (.td .i0) l } }

/-- R111: arrival at the target, loss of the resting limit and its return, and the far limit. -/
theorem witness_LimitChangeMovesTheDamper :
    let opening := tdIn ⟨true, .opening, some 1200000, none, none⟩ ⟨false, false⟩ .normal
    let rest := tdIn ⟨true, .opened, none, some 1005000, none⟩ ⟨false, false⟩ .normal
    Live opening ∧ opening.RequestsServed ∧ (opening.pins.limits.get (.td .i0)).get .openLimit = !true ∧
    nextHas (exec (.limitChange 0 (.td .i0) .openLimit true) opening)
      (fun t => decide (t.damper (.td .i0) = fittedIn .opened)) = true ∧
    nextHas (exec (.limitChange 0 (.td .i0) .openLimit true) rest)
      (fun t => decide (t.damper (.td .i0) = fittedIn .opened)) = true ∧
    nextHas (exec (.limitChange 0 (.td .i0) .openLimit false) (tdIn (fittedIn .opened) ⟨true, false⟩ .normal))
      (fun t => decide ((t.damper (.td .i0)).loss = some 1010000)) = true ∧
    nextHas (exec (.limitChange 0 (.td .i0) .closedLimit true) rest)
      (fun t => decide (t.damper (.td .i0) = ⟨true, .opening, some 1300000, none, none⟩)) = true ∧
    nextHas (exec (.limitChange 0 (.td .i0) .closedLimit true) (tdIn (fittedIn .opened) ⟨true, false⟩ .normal))
      (fun t => decide (t.damper (.td .i0) = ⟨true, .stuck, none, none, some .bothLimits⟩)) = true := by
  unfold State.RequestsServed; decide

theorem witness_LimitChangeMovesTheDamper_follow :
    (tdIn ⟨true, .opening, some 1200000, none, none⟩ ⟨false, false⟩ .normal).DampersFollow :=
  dampersFollow_of_follows (by decide)

/-- R94, R115: with an extract damper: arrival lets its fan claim, and a far limit at a lost rest runs its fan down. -/
theorem witness_LimitChangeMovesTheDamper_extract :
    let waiting := fanIn { fan0 with state := .waitDamper } .opening
    let running := fanIn { fan0 with state := .running } .opened
    (waiting.fan .A).state = .waitDamper ∧ (waiting.fan .A).claim = .none ∧ waiting.line.isolated = false ∧
    nextHas (exec (.limitChange 0 (.ed .A) .openLimit true) waiting) (fun t => decide ((t.fan .A).state = .waitSlot) &&
      decide ((t.fan .A).claim = .waiting)) = true ∧
    nextHas (exec (.limitChange 0 (.ed .A) .closedLimit true) running) (fun t =>
      decide ((t.fan .A).state = .rundown) && decide ((t.fan .A).rundown = some 1050000) &&
      decide ((t.damper (.ed .A)).state = .opening)) = true := by decide

theorem witness_DamperTimersStick :
    let travelling := tdIn ⟨true, .opening, some 1000000, none, none⟩ ⟨false, false⟩ .normal
    let lost := tdIn ⟨true, .opened, none, some 1000000, none⟩ ⟨false, false⟩ .normal
    Live travelling ∧ travelling.RequestsServed ∧ (travelling.damper (.td .i0)).fitted = true ∧
    reached travelling.tu 1000000 = true ∧ (travelling.damper (.td .i0)).travel = some 1000000 ∧
    Live lost ∧ (lost.damper (.td .i0)).loss = some 1000000 ∧
    nextHas (exec (.travelTimerExpiry 0 (.td .i0)) travelling) (fun t => t.damperFault && decide (t.causeCode = 7)) =
      true ∧
    nextHas (exec (.limitLossTimerExpiry 0 (.td .i0)) lost)
      (fun t => decide ((t.damper (.td .i0)).reason = some .limitLoss)) = true := by
  unfold State.RequestsServed; decide

theorem witness_DamperTimersStick_follow :
    (tdIn ⟨true, .opening, some 1000000, none, none⟩ ⟨false, false⟩ .normal).DampersFollow ∧
    (tdIn ⟨true, .opened, none, some 1000000, none⟩ ⟨false, false⟩ .normal).DampersFollow :=
  ⟨dampersFollow_of_follows (by decide), dampersFollow_of_follows (by decide)⟩

/-- R115: an extract damper that sticks makes its fan FAULTED. -/
theorem witness_DamperTimersStick_extract :
    let u := { fanIn { fan0 with state := .waitDamper } .opening with
      dampers := { normal.dampers with ed := ⟨⟨true, .opening, some 1000000, none, none⟩, fittedIn .closed⟩ } }
    nextHas (exec (.travelTimerExpiry 0 (.ed .A)) u) (fun t => decide ((t.fan .A).cause = some .damper) &&
      !t.effectiveCommand (.ed .A)) = true := by decide

/-! ### The zone line -/

/-- A state whose line and receiver stand so. -/
def onLine (l : LineState) (asm : AssemblyState) (mark : AttemptMark) : State :=
  { normal with line := { normal.line with state := l }, rx := { normal.rx with asm := asm, mark := mark } }

theorem witness_IdleAndStartBitsMoveTheAssembly :
    let u := onLine .receiving .assembling .lost
    Live u ∧ u.line.state = .receiving ∧ (onLine .idle .ready .none).line.state ≠ .sending ∧
    (onLine .sending .assembling .sending).line.state = .sending ∧
    nextHas (exec (.lineIdle ⟨0, 3⟩) u) (fun t => decide (t.rx.errors = 1) && decide (t.rx.asm = .ready) &&
      decide (t.line.clearRun = 999997)) = true ∧
    nextHas (exec (.lineIdle ⟨0, 3⟩) (onLine .receiving .assembling .failed)) (fun t => decide (t.rx.errors = 0)) = true ∧
    nextHas (exec (.anothersStartBit 0) (onLine .receiving .tail .none)) (fun t => decide (t.rx.errors = 1) &&
      decide (t.rx.asm = .skipping)) = true := by decide

/-- A claim of fan A waits in the CLAIM slot, beside a pending status. -/
def claiming : State :=
  { onLine .idle .ready .none with
    fans := { normal.fans with units := ⟨{ fan0 with state := .waitSlot, claim := .waiting }, fan0⟩ }
    tx := { normal.tx with slot := some ⟨.A, .waiting⟩, statusPending := true } }

/-- R148: an urgent content goes before a claim, and a claim before a status. -/
theorem witness_FrameStartTakesTheHighestContent :
    let urgent := { claiming with tx := { claiming.tx with urgent := some (.fireReset .key) } }
    let status := { onLine .idle .ready .none with tx := { normal.tx with statusPending := true } }
    Live claiming ∧ claiming.line.state = .idle ∧ claiming.line.stuck = false ∧ claiming.line.isolated = false ∧
    claiming.zone.mode ≠ .hold ∧ claiming.zone.mode ≠ .listen ∧ claiming.tx.urgent = none ∧
    nextHas (exec (.frameStart 0) urgent) (fun t => decide (t.tx.onLine = some ⟨.urgent (.fireReset .key), false⟩)) =
      true ∧
    nextHas (exec (.frameStart 0) claiming) (fun t => decide (t.tx.onLine = some ⟨.claim .A false, false⟩) &&
      decide ((t.fan .A).claim = .sending)) = true ∧
    nextHas (exec (.frameStart 0) status) (fun t =>
      decide (t.tx.onLine = some ⟨.status .idle 0 PeerFlags.absent 10, false⟩)) = true ∧
    nextHas (exec (.frameStart 0) (onLine .idle .ready .none)) (fun t => decide (t.line.state = .idle)) = true := by decide

theorem witness_FrameStartTakesTheHighestContent_probe :
    let u := { onLine .idle .ready .none with line := { (onLine .idle .ready .none).line with isolated := true },
                                               tx := { normal.tx with probeOffer := true } }
    u.line.isolated = true ∧ u.tx.probeOffer = true ∧ u.tx.urgent = none ∧
    nextHas (exec (.frameStart 0) u) (fun t =>
      decide (t.tx.onLine = some ⟨.status .idle 0 PeerFlags.absent 10, true⟩)) = true := by decide

/-- The station sends a content. -/
def sending (c : Content) (probe : Bool) : State :=
  { onLine .sending .assembling .sending with tx := { normal.tx with onLine := some ⟨c, probe⟩, statusPending := true } }

/-- Its claim for fan A is on the line, after some failed sends. -/
def sendingClaim (attempts : Nat) (failures : Nat) : State :=
  { sending (.claim .A false) false with
    line := { (sending (.claim .A false) false).line with failures := failures }
    fans := { normal.fans with staging := 1, target := 300,
                               units := ⟨{ fan0 with state := .waitSlot, claim := .sending }, fan0⟩ }
    dampers := { normal.dampers with ed := ⟨fittedIn .opened, fittedIn .closed⟩ }
    tx := { normal.tx with onLine := some ⟨.claim .A false, false⟩, slot := some ⟨.A, .onLine⟩,
                           claimAttempts := attempts } }

theorem witness_ContentionLossKeepsTheContent :
    let u := sendingClaim 0 0
    let gone := { u with
      fans := { u.fans with units := ⟨{ fan0 with claim := .abandoned }, fan0⟩ }
      tx := { u.tx with slot := some ⟨.A, .abandoned⟩ } }
    Live u ∧ u.share.requested = false ∧ u.line.state = .sending ∧ u.tx.onLine = some ⟨.claim .A false, false⟩ ∧
    u.line.isolated = false ∧ u.tx.slot = some ⟨.A, .onLine⟩ ∧ gone.tx.requests = ⟨false, false⟩ ∧
    (gone.fan .A).claim = .abandoned ∧ (gone.fan .A).state ≠ .waitSlot ∧
    (sending (.status .idle 0 PeerFlags.absent 10) true).tx.onLine.map (·.content.kind) = some 3 ∧
    nextHas (exec (.contentionLost 0) u) (fun t => decide (t.line.failures = 0) &&
      decide (t.tx.slot = some ⟨.A, .waiting⟩)) = true ∧
    nextHas (exec (.contentionLost 0) gone) (fun t => decide (t.tx.slot = none) &&
      decide ((t.fan .A).claim = .none)) = true := by decide

/-- The claim of fan A on the line is ABANDONED; the fan stands in a state, and fan B's request waits or not. -/
def sendingAbandoned (st : FanState) (other : Bool) : State :=
  { sendingClaim 2 0 with
    fans := { (sendingClaim 2 0).fans with
      units := ⟨{ fan0 with state := st, claim := .abandoned }, { fan0 with state := .waitSlot, claim := .waiting }⟩ }
    dampers := { normal.dampers with ed := ⟨fittedIn .opened, fittedIn .opened⟩ }
    tx := { (sendingClaim 2 0).tx with slot := some ⟨.A, .abandoned⟩, requests := ⟨false, other⟩ } }

/-- R102, R151, R152: the three ends of an ABANDONED claim, with the other fan's request waiting and the fan in WAIT_SLOT
again or not. -/
theorem witness_ContentionLossKeepsTheContent_abandoned :
    let u := sendingAbandoned .waitSlot true
    Live u ∧ u.tx.slot = some ⟨.A, .abandoned⟩ ∧ (u.fan .A).claim = .abandoned ∧
    u.tx.requests = (PerFan.all false).set Fan.A.other true ∧
    nextHas (exec (.contentionLost 0) u) (fun t => decide (t.tx.slot = some ⟨.B, .waiting⟩) &&
      decide (t.tx.requests = ⟨true, false⟩) && decide ((t.fan .A).claim = .waiting) &&
      decide (t.tx.claimAttempts = 0)) = true ∧
    nextHas (exec (.contentionLost 0) (sendingAbandoned .waitDamper true)) (fun t =>
      decide (t.tx.slot = some ⟨.B, .waiting⟩) && decide (t.tx.requests = ⟨false, false⟩) &&
      decide ((t.fan .A).claim = .none)) = true := by decide

theorem witness_BitErrorsCountTowardIsolation_abandoned :
    let u := sendingAbandoned .waitSlot false
    u.line.isolated = false ∧ u.line.failures < 15 ∧ u.tx.requests = (PerFan.all false).set Fan.A.other false ∧
    nextHas (exec (.bitError 0) u) (fun t => decide (t.tx.slot = some ⟨.A, .waiting⟩) &&
      decide ((t.fan .A).claim = .waiting) && decide (t.tx.claimAttempts = 0) && decide (t.line.failures = 1)) = true ∧
    nextHas (exec (.bitError 0) { sendingAbandoned .waitDamper false with
      line := { (sendingAbandoned .waitDamper false).line with failures := 15 } }) (fun t => t.line.isolated &&
      decide (t.tx.slot = none) && decide ((t.fan .A).claim = .none)) = true := by decide

/-- R158: a probe that fails leaves STATUS pending, its attempt count as it was, and the count at 16. -/
theorem witness_BitErrorsCountTowardIsolation_probe :
    let s := sending (.status .idle 0 PeerFlags.absent 10) true
    let u := { s with line := { s.line with isolated := true, failures := 16 }, tx := { s.tx with statusAttempts := 2 } }
    Live u ∧ u.line.isolated = true ∧ (∀ f, (u.fan f).claim ≠ .waiting) ∧ u.tx.requests = ⟨false, false⟩ ∧
    (∀ f, u.tx.slot ≠ some ⟨f, .waiting⟩) ∧
    nextHas (exec (.bitError 0) u) (fun t => t.tx.statusPending && decide (t.tx.statusAttempts = 2) &&
      decide (t.line.failures = 16)) = true :=
  ⟨by decide, by decide, fun f => by cases f <;> decide, by decide, fun f => by cases f <;> decide, by decide⟩

/-- The second failed send, the third, and the sixteenth failure. -/
theorem witness_BitErrorsCountTowardIsolation :
    Live (sendingClaim 1 14) ∧ (sendingClaim 1 14).share.requested = false ∧ (sendingClaim 1 14).line.state = .sending ∧
    (sendingClaim 1 14).line.isolated = false ∧ (sendingClaim 1 14).line.failures < 15 ∧
    (sendingClaim 2 15).line.failures = 15 ∧
    nextHas (exec (.bitError 0) (sendingClaim 1 14)) (fun t => decide (t.tx.slot = some ⟨.A, .waiting⟩) &&
      decide (t.tx.claimAttempts = 2)) = true ∧
    nextHas (exec (.bitError 0) (sendingClaim 2 14)) (fun t => decide ((t.fan .A).claim = .backoff) &&
      decide (t.tx.slot = none)) = true ∧
    nextHas (exec (.bitError 0) (sendingClaim 0 15)) (fun t => t.line.isolated && decide ((t.fan .A).state = .starting) &&
      decide (t.line.failures = 16)) = true ∧
    nextHas (exec (.bitError 0) { sending (.status .idle 0 PeerFlags.absent 10) false with
      tx := { (sending (.status .idle 0 PeerFlags.absent 10) false).tx with statusAttempts := 2 } })
      (fun t => !t.tx.statusPending) = true := by decide

/-- R130: the flag clears 10 000 TU after the first recessive sample, and a TU earlier it stands; a line that is held down,
or that has stuck since it was IDLE, does not clear. -/
theorem witness_StuckLineIsolates :
    let stuck := fun (st : LineState) (at' : Tu) =>
      { normal with line := { normal.line with state := st, stuck := true, isolated := true, clearRun := at' } }
    let u := stuck .idle 990000
    Live normal ∧ normal.share.requested = false ∧ normal.line.isolated = false ∧ Live u ∧ u.line.state = .idle ∧
    reached u.tu (tuAfter u.line.clearRun 10000) = true ∧
    nextHas (exec (.lineStuckDetected 0) claiming) (fun t => t.line.stuck && t.line.isolated &&
      decide (t.line.state = .receiving) && decide (t.tx.slot = none) && decide (t.tx.claimAttempts = 0)) = true ∧
    nextHas (exec (.lineStuckClear 0) u) (fun t => !t.line.stuck && t.line.isolated) = true ∧
    nextHas (exec (.lineStuckClear 0) (stuck .idle 990001)) (fun t => t.line.stuck) = true ∧
    nextHas (exec (.lineStuckClear 0) (stuck .receiving 0)) (fun t => t.line.stuck) = true := by decide

/-- 8.9, a stuck line and its recovery: released at 800 000 and IDLE at 800 003, station 8 clears LINE_STUCK at 810 000 and
not at 809 999. -/
theorem test_stuck_line_recovers :
    let u := { onLine .receiving .ready .none with tu := 800000 }
    let v := { u with line := { u.line with stuck := true, isolated := true } }
    let t := match exec (.lineIdle ⟨3, 3⟩) v with
      | .next t => t
      | _ => v
    t.line.clearRun = 800000 ∧ nextHas (exec (.lineStuckClear 9996) t) (fun w => w.line.stuck) = true ∧
    nextHas (exec (.lineStuckClear 9997) t) (fun w => !w.line.stuck && w.line.isolated && decide (w.tu = 810000)) = true := by
  decide

/-- A probe that completes ends isolation (R133). -/
theorem witness_OwnEchoCompletesTheAttempt :
    let probe := { sending (.status .idle 0 PeerFlags.absent 10) true with
      line := { (sending (.status .idle 0 PeerFlags.absent 10) true).line with isolated := true, failures := 16 } }
    Live (sendingClaim 0 3) ∧ (sendingClaim 0 3).rx.asm = .assembling ∧ (sendingClaim 0 3).rx.mark = .sending ∧
    (sendingClaim 0 3).line.state = .sending ∧ (sendingClaim 0 3).tx.onLine = some ⟨.claim .A false, false⟩ ∧
    ((sendingClaim 0 3).fan .A).claim = .sending ∧ ((sendingClaim 0 3).fan .A).state = .waitSlot ∧
    (sendingClaim 0 3).tx.requests = ⟨false, false⟩ ∧
    nextHas (exec (.frameArrival 0 []) (sendingClaim 0 3)) (fun t => decide ((t.fan .A).state = .starting) &&
      decide (t.line.failures = 0) && decide (t.fans.starts = [⟨8, .A, false, 1000000, 1100000⟩])) = true ∧
    Live probe ∧ probe.line.isolated = true ∧
    nextHas (exec (.frameArrival 0 []) probe) (fun t => !t.line.isolated && t.tx.isolatedMark &&
      decide (t.line.failures = 0)) = true := by decide

theorem witness_OwnEchoCompletesTheAttempt_abandoned :
    let u := sendingAbandoned .waitSlot true
    u.rx.asm = .assembling ∧ u.rx.mark = .sending ∧ (u.fan .A).claim = .abandoned ∧ (u.fan .A).state ≠ .starting ∧
    nextHas (exec (.frameArrival 0 []) u) (fun t => decide (t.tx.slot = some ⟨.B, .waiting⟩) &&
      decide (t.tx.requests = ⟨true, false⟩) && decide ((t.fan .A).claim = .waiting) &&
      decide (t.fans.starts = [⟨8, .A, false, 1000000, 1100000⟩])) = true := by decide

/-! ### Reception -/

/-- R123, R128: a kind that the line does not know, a length that is not its kind's, and a check that does not agree. -/
theorem witness_CondemnedFramesAreCountedOnce :
    let u := onLine .receiving .assembling .none
    Live u ∧ judgeFrame [128] = .bad ∧ judgeFrame [127] = .unfinished ∧ judgeFrame [9, 2] = .bad ∧
    judgeFrame (frameChars 9 (.urgent (.fireAlarm .heat 1000))) = .valid ⟨9, .fireAlarm 1000⟩ ∧
    judgeFrame ((frameChars 9 (.urgent (.fireAlarm .heat 1000))).set 4 0) = .bad ∧
    nextHas (exec (.frameCondemned 0 [128] false) u) (fun t => decide (t.rx.errors = 1) &&
      decide (t.rx.asm = .skipping)) = true ∧
    nextHas (exec (.frameCondemned 0 [9] true) (onLine .receiving .tail .none)) (fun t => decide (t.rx.errors = 1)) =
      true ∧
    nextHas (exec (.frameCondemned 0 [9] true) (onLine .receiving .assembling .failed))
      (fun t => decide (t.rx.errors = 0)) = true := by decide

/-- The four kinds from station 9, the own number, and the FIFOs at their capacities. -/
theorem witness_HeardFramesAreRouted :
    let u := onLine .receiving .assembling .none
    let f : FifoEntry := ⟨7, some 0, 5, .fireReset⟩
    let two := { u with rx := { u.rx with fifoA := [f, f], fifoB := List.replicate 7 f } }
    let all := { two with rx := { two.rx with fifoB := List.replicate 8 f } }
    let alarm := frameChars 9 (.urgent (.fireAlarm .heat 1000))
    Live u ∧ u.share.requested = false ∧ u.rx.mark ≠ .sending ∧ u.recordValid = true ∧ (9 : Station) ≠ u.cfg.station ∧
    judgeFrame (frameChars 9 (.urgent (.fireReset .key))) = .valid ⟨9, .fireReset⟩ ∧
    judgeFrame (frameChars 9 (.claim .B true)) = .valid ⟨9, .startClaim 1 1⟩ ∧
    judgeFrame (frameChars 9 (.status .fire 2000 ⟨true, false, true, false⟩ 50)) = .valid ⟨9, .zoneStatus 5 2000 5 50⟩ ∧
    nextHas (exec (.frameArrival 0 (frameChars 8 (.urgent (.fireReset .key)))) u)
      (fun t => t.rx.duplicate && decide (t.rx.fifoA = [])) = true ∧
    nextHas (exec (.frameArrival 0 alarm) u)
      (fun t => decide (t.rx.fifoA = [⟨9, some 1, 1000000, .fireAlarm 1000⟩])) = true ∧
    nextHas (exec (.frameArrival 0 alarm) two) (fun t => decide (t.rx.fifoB.length = 8)) = true ∧
    nextHas (exec (.frameArrival 0 alarm) all) (fun t => decide (t.rx.lost = 1)) = true := by decide

/-- R143, R144: a START_CLAIM for a fan 2 is counted in RX_ERRORS. -/
theorem witness_HeardFramesAreRouted_range :
    let bad := [73, 2, 2, 0] ++ crcChars [73, 2, 2, 0]
    judgeFrame bad = .valid ⟨9, .startClaim 2 0⟩ ∧
    nextHas (exec (.frameArrival 0 bad) (onLine .receiving .assembling .none))
      (fun t => decide (t.rx.errors = 1) && decide (t.fans.starts = [])) = true := by decide

/-- 6.10, a full list: the 17th claim, with the fire flag, drops the head, and its fan is RUNNING. -/
theorem witness_HeardClaimsAreAdmitted :
    let fill := ⟨8, .A, false, 900000, 1020000⟩ :: List.replicate 15 (⟨3, .A, false, 910000, 1030000⟩ : ClaimEntry)
    let u := { fanIn { fan0 with state := .starting } .opened with
      fans := { (fanIn { fan0 with state := .starting } .opened).fans with starts := fill }
      line := { normal.line with state := .receiving }, rx := { normal.rx with asm := .assembling } }
    Live u ∧ u.share.requested = false ∧ u.rx.asm = .assembling ∧ u.rx.mark ≠ .sending ∧
    judgeFrame (frameChars 9 (.claim .B true)) = .valid ⟨9, .startClaim 1 1⟩ ∧ u.recordValid = true ∧
    (9 : Station) ≠ u.cfg.station ∧ u.fans.starts.length = 16 ∧
    nextHas (exec (.frameArrival 0 (frameChars 9 (.claim .B true))) u) (fun t => decide ((t.fan .A).state = .running) &&
      decide (t.fans.starts.length = 16)) = true := by decide

/-- R158: the probe instant of station 8 is 2000 TU after each second. -/
theorem witness_StatusScheduleKeepsTime :
    let u := { normal with tx := { normal.tx with heartbeat := some 1000000, spacing := some 1000000 } }
    let isolated := { normal with tu := 1002000, line := { normal.line with isolated := true } }
    Live u ∧ u.share.requested = false ∧ reached u.tu 1000000 = true ∧ u.share.pass = none ∧ u.recordValid = true ∧
    Live isolated ∧ isolated.tu.toNat % 10000 = 250 * isolated.cfg.station.val ∧ isolated.line.stuck = false ∧
    isolated.tx.onLine = none ∧ normal.tu.toNat % 10000 ≠ 250 * normal.cfg.station.val ∧
    nextHas (exec (.heartbeatExpiry 0) u) (fun t => t.tx.statusPending && decide (t.tx.heartbeat = some 1010000) &&
      t.share.pass.isSome) = true ∧
    nextHas (exec (.probeInstant 0) isolated) (fun t => t.tx.probeOffer) = true ∧
    nextHas (exec (.probeInstant 0) { isolated with tx := { isolated.tx with onLine := some ⟨.urgent (.fireReset .key), true⟩ } })
      (fun t => !t.tx.probeOffer) = true := by decide

theorem witness_HitIsTheLowestMatch :
    (record8.filters.length ≤ 6) ∧ hitOf record8.filters 7 = some 0 ∧ hitOf record8.filters 8 = none ∧
    hitOf (List.replicate 6 ⟨0, 0⟩) 31 = some 0 := by decide

/-! ### The Service Port -/

/-- R167 at its boundaries: 200 data bytes are judged, 201 start SKIPPING; and each status in its order. -/
theorem witness_PortJudgesEveryRequest :
    Live normal ∧ normal.Hears 0x11 (sealRequest 0x11 [1, 2]) ∧ ¬ normal.Hears 0x11 ⟨[1], 0⟩ ∧
    (0x13 : Byte) ∉ commandCodes ∧ normal.Hears 0x13 (sealRequest 0x13 []) ∧
    nextHas (exec (.identify 0 ⟨List.replicate 201 0, 0⟩) normal) (fun t => decide (t.port.state = .skipping)) = true ∧
    nextHas (exec (.identify 0 (sealRequest 0x01 (List.replicate 200 0))) normal)
      (fun t => decide (t.port.response = responseChars 0x01 .badLength [])) = true ∧
    nextHas (exec (.readPeer 0 ⟨[1], 0⟩) normal) (fun t => decide (t.port.response = responseChars 0x11 .badCheck [])) =
      true ∧
    nextHas (exec (.unknownCommand 0 0x13 (sealRequest 0x13 [])) normal)
      (fun t => decide (t.port.response = responseChars 0x13 .unknown [])) = true := by
  unfold State.Hears; decide

/-- R166: the characters of a request in SKIPPING start the silence again, so that the timeout comes later. -/
theorem witness_PortJudgesEveryRequest_skipping :
    let u := { normal with port := { normal.port with state := .skipping, chars := [0x40], lastChar := 999600 } }
    Live u ∧ u.port.busy = false ∧ u.port.state = .skipping ∧
    nextHas (exec (.readState 0 (sealRequest 0x10 [])) u) (fun t => decide (t.port.lastChar = 1000000) &&
      decide (t.port.response = []) && nextHas (exec (.serviceTimeout 499 []) t) fun v => decide (v.port = t.port)) = true ∧
    nextHas (exec (.readPoints 0 (sealRequest 0x20 [0, 0, 1]) ⟨true, false, false⟩) u) (fun t =>
      decide (t.port.lastChar = 1000000) && t.pins.strap) = true := by decide

theorem witness_PortJudgesEveryRequest_busy :
    let u := { normal with port := { normal.port with busy := true } }
    Live u ∧ u.port.busy = true ∧ exec (.identify 0 (sealRequest 0x01 [])) u = .next u := ⟨by decide, by decide, rfl⟩

/-- R166: a partial request of one character, of a length of 201, and the silence after SKIPPING. -/
theorem witness_PortRecoversFromPartialRequests :
    let skipping := { normal with port := { normal.port with state := .skipping, chars := [0x40], lastChar := 999500 } }
    let answered := { normal with port := { normal.port with busy := true, response := [1] } }
    Live normal ∧ normal.port.busy = false ∧ normal.port.state = .ready ∧ 200 < (201 : Byte).toNat ∧
    Live skipping ∧ reached skipping.tu (tuAfter skipping.port.lastChar 500) = true ∧ answered.port.response ≠ [] ∧
    nextHas (exec (.serviceTimeout 0 [0x40]) normal) (fun t => decide (t.port.response = []) && !t.port.busy) = true ∧
    nextHas (exec (.serviceTimeout 0 [0x40, 201]) normal)
      (fun t => decide (t.port.response = responseChars 0x40 .badLength [])) = true ∧
    (∃ (len : Byte) (data : List Byte), [(200 : Byte), 1, 2] = len :: data ∧ len.toNat ≤ 200 ∧ data.length ≤ len.toNat) ∧
    nextHas (exec (.serviceTimeout 0 [0x20, 0]) normal) (fun t => decide (t.port = { normal.port with lastChar := 999500 })) =
      true ∧
    nextHas (exec (.serviceTimeout 0 [0x20, 3, 1, 2, 3]) normal) (fun t => decide (t.port.response = []) && !t.port.busy) =
      true ∧
    nextHas (exec (.serviceFramingError 0 [0x20, 200, 1, 2]) normal) (fun t =>
      decide (t.port = { normal.port with lastChar := 1000000 })) = true ∧
    nextHas (exec (.serviceTimeout 0 []) skipping)
      (fun t => decide (t.port.response = responseChars 0x40 .badLength [])) = true ∧
    nextHas (exec (.responseSent 0) answered) (fun t => !t.port.busy) = true := by
  refine ⟨by decide, by decide, by decide, by decide, by decide, by decide, by decide, by decide, by decide, ⟨200, [1, 2], ?_⟩, ?_⟩ <;> decide

/-- The indices 23 and 24 of READ PEER, and the other reads. -/
theorem witness_ReadsAnswerFromTheState :
    let many := { normal with view := { normal.view with entries := (List.replicate 23 (entry 3 .idle 0)) ++ [entry 9 .fire 7] } }
    normal.Hears 0x01 (sealRequest 0x01 []) ∧ normal.Hears 0x10 (sealRequest 0x10 []) ∧
    normal.Hears 0x11 (sealRequest 0x11 [23]) ∧ normal.Hears 0x12 (sealRequest 0x12 []) ∧
    normal.Hears 0x41 (sealRequest 0x41 []) ∧ normal.zone.contain.length ≤ 31 ∧ normal.fans.starts.length ≤ 16 ∧
    many.view.entries[23]? = some (entry 9 .fire 7) ∧ normal.view.entries[0]? = none ∧
    nextHas (exec (.identify 0 (sealRequest 0x01 [])) normal)
      (fun t => decide (t.port.response = responseChars 0x01 .ok [0x01, 0xA0, 0x01])) = true ∧
    nextHas (exec (.readPeer 0 (sealRequest 0x11 [23])) many) (fun t => decide (t.port.response =
      responseChars 0x11 .ok [9, 255, 5, 0, 7, 0, 10, 0x00, 0x0F, 0x42, 0x40, 0])) = true ∧
    nextHas (exec (.readPeer 0 (sealRequest 0x11 [24])) normal)
      (fun t => decide (t.port.response = responseChars 0x11 .badArg [])) = true ∧
    nextHas (exec (.readStarts 0 (sealRequest 0x12 [])) { normal with fans := { normal.fans with starts := starts2.take 1 } })
      (fun t => decide (t.port.response =
        responseChars 0x12 .ok [1, 3, 0, 0, 0x00, 0x0F, 0x42, 0x40, 0x00, 0x10, 0xC8, 0xE0])) = true := by
  unfold State.Hears; decide

/-- R169: the 44 bytes of READ STATE for the quiet station: NORMAL, record valid, no cause, two fans stopped, two extract
dampers CLOSED and three transfer dampers OPEN. -/
theorem test_read_state :
    nextHas (exec (.readState 0 (sealRequest 0x10 [])) normal) (fun t => decide (t.port.response = responseChars 0x10 .ok
      ([2, 0, 0, 0, 0, 0, 0, 32] ++ List.replicate 11 0 ++ [0, 255, 0, 0] ++ List.replicate 8 0 ++
        [128, 128, 130, 130, 130, 0] ++ List.replicate 7 0))) = true := by decide

/-- R161 at its boundaries: address 127 is read, 128 and -1 are not; a count of 16 is taken, 0 and 17 are not. -/
theorem witness_ReadPointsAnswersItsAddresses :
    let read := fun (base disp count : Byte) =>
      exec (.readPoints 0 (sealRequest 0x20 [base, disp, count]) ⟨true, false, true⟩) normal
    normal.Hears 0x20 (sealRequest 0x20 [127, 0, 1]) ∧
    nextHas (read 127 0 1) (fun t => decide (t.port.response = responseChars 0x20 .ok [0])) = true ∧
    nextHas (read 127 1 1) (fun t => decide (t.port.response = responseChars 0x20 .badArg [])) = true ∧
    nextHas (read 112 0 16) (fun t => decide (t.port.response = responseChars 0x20 .ok (List.replicate 16 0))) = true ∧
    nextHas (read 112 0 17) (fun t => decide (t.port.response = responseChars 0x20 .badArg [])) = true ∧
    nextHas (read 0 0 0) (fun t => decide (t.port.response = responseChars 0x20 .badArg [])) = true ∧
    nextHas (read 0 255 1) (fun t => decide (t.port.response = responseChars 0x20 .badArg [])) = true ∧
    nextHas (read 128 200 1) (fun t => decide (t.port.response = responseChars 0x20 .badArg [])) = true ∧
    nextHas (read 10 252 4) (fun t => decide (t.port.response = responseChars 0x20 .ok [1, 0, 0, 1])) = true := by
  unfold State.Hears; decide

/-- R162 at its boundaries: points 72, 77, 80 and 81 are forced, 71 and 78 are not, 128 is no point; the modes. -/
theorem witness_ForcesAreSetAndReleased :
    let force := fun (m : Mode) (base mask value : Byte) =>
      exec (.modifyPoints 0 (sealRequest 0x21 [base, mask, value])) (inMode normal m)
    normal.Hears 0x21 (sealRequest 0x21 [72, 1, 1]) ∧ normal.Hears 0x22 (sealRequest 0x22 []) ∧
    nextHas (force .hold 72 33 33) (fun t => decide (t.forces.dampers.get (.ed .A) = ⟨true, true⟩) &&
      decide (t.forces.dampers.get (.td .i3) = ⟨true, true⟩)) = true ∧
    nextHas (force .normal 80 3 1) (fun t => decide (t.forces.fire = ⟨true, true⟩) &&
      decide (t.forces.fault = ⟨true, false⟩)) = true ∧
    nextHas (force .hold 71 1 1) (fun t => decide (t.port.response = responseChars 0x21 .refusedPoint [])) = true ∧
    nextHas (force .hold 78 1 1) (fun t => decide (t.port.response = responseChars 0x21 .refusedPoint [])) = true ∧
    nextHas (force .hold 127 2 0) (fun t => decide (t.port.response = responseChars 0x21 .badArg [])) = true ∧
    nextHas (force .listen 72 1 1) (fun t => decide (t.port.response = responseChars 0x21 .refusedMode [])) = true ∧
    nextHas (exec (.releasePoints 0 (sealRequest 0x22 [])) { normal with forces := { Forces.clear with fire := ⟨true, true⟩ } })
      (fun t => decide (t.forces = Forces.clear)) = true := by
  unfold State.Hears; decide

theorem witness_ServiceResetsTheFire :
    Live burning ∧ burning.Hears 0x30 (sealRequest 0x30 []) ∧ normal.zone.mode ≠ .fire ∧ burning.zone.mode = .fire ∧
    burning.cfg.types.get .i2 ≠ .unused ∧ burning.monitor.filtered.get (.point .i2) = true ∧
    Ix4.all.all (fun p => !keyed.monitor.filtered.get (.point p)) = true := by
  unfold State.Hears; decide

/-- R97, R114: a fan FAULTED by proving returns; a STUCK damper with both limits active sticks again. -/
theorem witness_ClearFaultsReturnsFansAndDampers :
    let faulted := fanIn { fan0 with state := .faulted, cause := some .proving } .closed
    let stuck := tdIn ⟨true, .stuck, none, none, some .travel⟩ ⟨true, true⟩ .normal
    let open' := tdIn ⟨true, .stuck, none, none, some .travel⟩ ⟨true, false⟩ .normal
    Live faulted ∧ faulted.Hears 0x31 (sealRequest 0x31 []) ∧ (faulted.fan .A).state = .faulted ∧
    nextHas (exec (.clearFaults 0 (sealRequest 0x31 [])) faulted) (fun t => decide ((t.fan .A).cause = none) &&
      decide ((t.fan .A).state = .waitDamper) && decide (t.fmaxEff = 1000)) = true ∧
    nextHas (exec (.clearFaults 0 (sealRequest 0x31 [])) stuck)
      (fun t => decide ((t.damper (.td .i0)).reason = some .bothLimits)) = true ∧
    nextHas (exec (.clearFaults 0 (sealRequest 0x31 [])) open')
      (fun t => decide (t.damper (.td .i0) = fittedIn .opened)) = true := by
  unfold State.Hears; decide

/-- R96, R97, R106, R114: the fan of an extract damper with both limits active returns, is judged and told of, and is
FAULTED again; fan B is then the one that is needed. -/
theorem witness_ClearFaultsReturnsFansAndDampers_again :
    let u := { fanIn { fan0 with state := .faulted, cause := some .proving } .closed with
      dampers := { normal.dampers with ed := ⟨⟨true, .stuck, none, none, some .travel⟩, fittedIn .closed⟩ }
      pins := { normal.pins with limits := normal.pins.limits.set (.ed .A) ⟨true, true⟩ } }
    (u.fan .A).state = .faulted ∧ u.fanFitted .A = true ∧ (u.damper (.ed .A)).state = .stuck ∧
    nextHas (exec (.clearFaults 0 (sealRequest 0x31 [])) u) (fun t => decide ((t.fan .A).state = .faulted) &&
      decide ((t.fan .A).cause = some .damper) && t.share.pass.isSome && t.tx.changeMark &&
      decide ((t.damper (.ed .A)).reason = some .bothLimits) && decide ((t.fan .B).state = .waitDamper)) = true := by
  decide

/-- Log entry 28: a fan returned behind an OPEN damper, while its own ABANDONED claim is on the line, waits in its request. -/
theorem test_claim_behind_the_abandoned :
    let u := { sendingAbandoned .faulted false with
      fans := { (sendingAbandoned .faulted false).fans with units := ⟨{ fan0 with state := .faulted, claim := .abandoned }, fan0⟩ } }
    nextHas (exec (.clearFaults 0 (sealRequest 0x31 [])) { u with
      forces := { Forces.clear with dampers := Forces.clear.dampers.set (.ed .A) ⟨true, true⟩ } })
      (fun t => decide ((t.fan .A).claim = .waiting) && decide (t.tx.slot = some ⟨.A, .abandoned⟩) &&
        decide (t.tx.requests = ⟨true, false⟩)) = true := by decide

/-- R103, log entry 10: while isolated, FIRE drops the force that holds ED-A, which is OPEN at once, and takes fan B out of
BACKOFF: fan A's local claim is decided before fan B's. -/
theorem test_local_claims_in_order :
    let u := { runDue normal (.point .i2) true with
      fans := { normal.fans with
        staging := 2, target := 900
        units := ⟨{ fan0 with state := .waitDamper },
                  { fan0 with state := .waitSlot, claim := .backoff, backoff := some 1005000 }⟩ }
      dampers := { normal.dampers with ed := ⟨⟨true, .closing, some 1200000, none, none⟩, fittedIn .opened⟩ }
      forces := { Forces.clear with dampers := Forces.clear.dampers.set (.ed .A) ⟨true, false⟩ }
      line := { normal.line with isolated := true } }
    let v := { u with pins := { u.pins with limits := u.pins.limits.set (.ed .A) ⟨true, false⟩ } }
    nextHas (exec (.activation 0 (.point .i2)) v) (fun t => decide (t.zone.mode = .fire) &&
      decide (t.fans.starts.map (·.fan) = [.A, .B]) && decide ((t.fan .A).state = .starting) &&
      decide ((t.fan .B).state = .starting)) = true := by decide

/-- R103, R114, log entry 10: CLEAR FAULTS while isolated, with a force that holds ED-A closed. ED-A settles OPEN, the claim
that fan A then starts is decided at once, and the force takes the STARTING fan to RUNDOWN in the same event. -/
theorem test_local_claim_before_the_force :
    let u := { fanIn { fan0 with state := .faulted, cause := some .damper } .closed with
      dampers := { normal.dampers with ed := ⟨⟨true, .stuck, none, none, some .travel⟩, fittedIn .closed⟩ }
      pins := { normal.pins with limits := normal.pins.limits.set (.ed .A) ⟨true, false⟩ }
      forces := { Forces.clear with dampers := Forces.clear.dampers.set (.ed .A) ⟨true, false⟩ }
      line := { normal.line with isolated := true } }
    nextHas (exec (.clearFaults 0 (sealRequest 0x31 [])) u) (fun t => decide (t.fans.starts.map (·.fan) = [.A]) &&
      decide ((t.fan .A).state = .rundown) && decide ((t.fan .A).claim = .none) &&
      decide ((t.damper (.ed .A)).state = .closing)) = true := by decide

/-- R103, R112, R114, log entry 10: CLEAR FAULTS while isolated, both fans needed. ED-A reverses and is OPEN at once as it
answers its command; its fan's claim comes before that of fan B, though ED-B was OPEN already and a force then closes it. -/
theorem test_local_claims_at_clear_faults :
    let u := { normal with
      fans := { normal.fans with
        target := 900
        units := ⟨{ fan0 with state := .faulted, cause := some .proving }, { fan0 with state := .faulted, cause := some .damper }⟩ }
      dampers := { normal.dampers with
        ed := ⟨⟨true, .closing, some 1200000, none, none⟩, ⟨true, .stuck, none, none, some .travel⟩⟩ }
      pins := { normal.pins with
        limits := (normal.pins.limits.set (.ed .A) ⟨true, false⟩).set (.ed .B) ⟨true, false⟩ }
      forces := { Forces.clear with dampers := Forces.clear.dampers.set (.ed .B) ⟨true, false⟩ }
      line := { normal.line with isolated := true } }
    nextHas (exec (.clearFaults 0 (sealRequest 0x31 [])) u) (fun t => decide (t.fans.starts.map (·.fan) = [.A, .B]) &&
      decide ((t.fan .A).state = .starting) && decide ((t.fan .B).state = .rundown)) = true := by decide

/-- R173: a load in HOLD begins a write, in NORMAL it is refused, and a record of the wrong sum is BAD_ARG. -/
theorem witness_LoadRecordTakesEffectInOneEvent :
    Live holding ∧ holding.Hears 0x40 (sealRequest 0x40 recordBytes) ∧ recordBytes.length = 90 ∧
    recordOk recordBytes = true ∧ recordOk (recordBytes.set 0 9) = false ∧
    nextHas (exec (.loadRecord 0 (sealRequest 0x40 recordBytes)) holding)
      (fun t => decide (t.store.writing = some ⟨recordBytes, 1000000⟩) && t.port.busy) = true ∧
    nextHas (exec (.loadRecord 0 (sealRequest 0x40 recordBytes)) normal)
      (fun t => decide (t.port.response = responseChars 0x40 .refusedMode [])) = true ∧
    nextHas (exec (.loadRecord 0 (sealRequest 0x40 (recordBytes.set 0 9))) holding)
      (fun t => decide (t.port.response = responseChars 0x40 .badArg [])) = true := by
  unfold State.Hears; decide

/-- R173, R72: a write that ends with the hold line inactive takes the station from HOLD to LISTEN. -/
theorem witness_LoadRecordTakesEffectInOneEvent_end :
    let u := { holding with
      pins := { holding.pins with hold := false }
      store := { State.reset.store with writing := some ⟨recordBytes, 999999⟩ } }
    Live u ∧ u.store.writing = some ⟨recordBytes, 999999⟩ ∧ reached u.tu (tuAfter 999999 1) = true ∧
    u.share.pass = none ∧ inPass.share.pass ≠ none ∧ u.line.isolated = false ∧
    nextHas (exec (.recordWriteComplete 0) u) (fun t => decide (t.zone.mode = .listen) && t.recordValid &&
      decide (t.port.response = responseChars 0x40 .ok [])) = true := by decide

/-! ### The laws -/

/-- The station in NORMAL has every law, and a command waits. -/
def queued : State := { normal with pending := [.sweep 0] }

theorem witness_EveryStepKeepsTheInterlock : queued.Interlocked ∧ ∃ t, step queued = .next t :=
  ⟨fun f => by cases f <;> decide, _, rfl⟩

/-- A law that bites: fan A waits for a slot behind its open damper. -/
theorem witness_EveryStepKeepsTheInterlock_waiting : (backedOff [] false).Interlocked :=
  fun f => by cases f <;> decide

theorem witness_EveryStepKeepsTheModeLaws : queued.ModeSound ∧ queued.TimersSound ∧ queued.ForcesSound := by
  unfold State.ModeSound State.TimersSound State.ForcesSound; decide

theorem witness_EveryStepKeepsTheDamperLaws : queued.DampersSound ∧ queued.DampersFollow :=
  ⟨fun d => by rcases d with (_ | _) | (_ | _ | _ | _) <;> (unfold DamperUnit.Sound; decide),
   dampersFollow_of_follows (by decide)⟩

theorem witness_EveryStepKeepsTheListLaws :
    queued.Ordered ∧ queued.Bounded ∧ queued.RecordSound ∧ queued.FansAtRest ∧ queued.RequestsServed := by
  refine ⟨by unfold State.Ordered; decide, ⟨?_, ?_, ?_, ?_, ?_, ?_, ?_, ?_, ?_⟩, test_record_valid.symm, ?_, rfl, rfl⟩
  case refine_9 => intro f; cases f <;> decide
  case refine_10 => exact ⟨by decide, fun f => by cases f <;> decide⟩
  all_goals decide

/-- R122, R123 at the ends of the fields: every bit comes back. -/
theorem witness_FramesReadBackWhole :
    judgeFrame (frameChars 31 (.status .fire 65535 ⟨true, true, true, true⟩ 255)) =
      .valid ⟨31, .zoneStatus 5 65535 15 255⟩ ∧
    judgeFrame (frameChars 0 (.urgent (.fireAlarm .smokeConfirmed 0))) = .valid ⟨0, .fireAlarm 0⟩ := by decide

end Sys2Proof.Tests
end

section
/-! The demand stage's own class (R22), from what the stage leaves in the share (`State.recompute_share`). -/

namespace Sys2Proof.Machine

/-- R22, NORMAL: the own PRE_ALARM raises the own class whatever the fume class is. -/
theorem ownClassFor_normal_preAlarm (f : FumeClass) : ownClassFor .normal f .preAlarm = .fume3 :=
  rfl

/-- R22, NORMAL: without the own PRE_ALARM the own class follows the fume class. -/
theorem ownClassFor_normal_of_ne {d : Declaration} (f : FumeClass) (hd : d ≠ .preAlarm) :
    ownClassFor .normal f d = f.toDemand :=
  if_neg hd

/-- Settles O15: the stage leaves the class that the present inputs give, and the table is read mode by mode; in NORMAL
by the declaration state and then by the fume class. -/
theorem ownClassTable : Obligations.OwnClassTable := by
  intro s
  have hcls : s.recompute.share.cls = ownClassFor s.zone.mode s.fume.cls s.monitor.decl :=
    s.recompute_share.1
  rw [hcls]
  cases s.zone.mode with
  | normal =>
    cases s.monitor.decl with
    | preAlarm => exact ownClassFor_normal_preAlarm s.fume.cls
    | clear | declared =>
      rw [ownClassFor_normal_of_ne s.fume.cls (by decide)]
      cases s.fume.cls <;> rfl
  | hold | listen | contain | fire | purge => rfl

end Sys2Proof.Machine
end

section
/-! The fume class after a sample event (R46, R47): the model judges a rise and then a fall; its outcome is read off the two
thresholds of each class. -/

namespace Sys2Proof.Machine

/-- The highest class whose upper threshold `f` reaches, or that is not above `c` and whose lower threshold `f` does not
fall below. -/
def Record.heldClass (r : Record) (f : Nat) (c : FumeClass) : FumeClass :=
  if r.fume3.upper ≤ f ∨ 3 ≤ c.num ∧ r.fume3.lower ≤ f then .fume3
  else if r.fume2.upper ≤ f ∨ 2 ≤ c.num ∧ r.fume2.lower ≤ f then .fume2
  else if r.fume1.upper ≤ f ∨ 1 ≤ c.num ∧ r.fume1.lower ≤ f then .fume1
  else .idle

/-- R36: the numbers of the fume classes. -/
@[simp] theorem FumeClass.num_eq :
    FumeClass.idle.num = 0 ∧ FumeClass.fume1.num = 1 ∧ FumeClass.fume2.num = 2 ∧ FumeClass.fume3.num = 3 :=
  ⟨rfl, rfl, rfl, rfl⟩

/-- R46: no class above the class reached has an upper threshold that `f` reaches. -/
theorem Record.le_num_classReached (r : Record) (f : Nat) :
    (r.fume3.upper ≤ f → 3 ≤ (r.classReached f).num) ∧ (r.fume2.upper ≤ f → 2 ≤ (r.classReached f).num) ∧
    (r.fume1.upper ≤ f → 1 ≤ (r.classReached f).num) := by
  unfold Record.classReached
  by_cases h3 : r.fume3.upper ≤ f
  · simp [h3]
  by_cases h2 : r.fume2.upper ≤ f
  · simp [h3, h2]
  · simp +contextual [h3, h2]

/-- R47: the fall stops at the highest class, not above the present one, whose lower threshold `f` does not fall below. -/
theorem Record.fallFrom_eq (r : Record) (f : Nat) (c : FumeClass) :
    r.fallFrom f c =
      if 3 ≤ c.num ∧ r.fume3.lower ≤ f then .fume3
      else if 2 ≤ c.num ∧ r.fume2.lower ≤ f then .fume2
      else if 1 ≤ c.num ∧ r.fume1.lower ≤ f then .fume1
      else .idle := by
  cases c with
  | idle => rfl
  | fume1 | fume2 | fume3 =>
    simp only [Record.fallFrom, Record.fallFrom2, Record.fallFrom1, ← Nat.not_le, ite_not]
    simp

/-- R46: a class below the class reached rises to it; it and the classes above it are not yet held by a lower threshold. -/
theorem Record.heldClass_of_rise (r : Record) (f : Nat) (c : FumeClass) (h : c.num < (r.classReached f).num) :
    r.heldClass f c = r.classReached f := by
  unfold Record.heldClass
  unfold Record.classReached at h ⊢
  by_cases h3 : r.fume3.upper ≤ f
  · simp [h3]
  by_cases h2 : r.fume2.upper ≤ f
  · have hc : c.num < 2 := by simpa [h3, h2] using h
    simp [h3, h2, show ¬ 3 ≤ c.num by omega]
  by_cases h1 : r.fume1.upper ≤ f
  · have hc : c.num = 0 := by simpa [h3, h2, h1] using h
    simp [h3, h2, h1, hc]
  · exact absurd h (by simp [h3, h2, h1])

/-- R47: a class not below the class reached falls. An upper threshold that `f` reaches is then that of a class not above
`c`, and the lower threshold under it holds that class already. -/
theorem Record.heldClass_of_fall (r : Record) (f : Nat) (c : FumeClass) (h1 : r.fume1.lower < r.fume1.upper)
    (h2 : r.fume2.lower < r.fume2.upper) (h3 : r.fume3.lower < r.fume3.upper)
    (h : (r.classReached f).num ≤ c.num) : r.heldClass f c = r.fallFrom f c := by
  obtain ⟨hr3, hr2, hr1⟩ := r.le_num_classReached f
  have hs3 : r.fume3.upper ≤ f → 3 ≤ c.num ∧ r.fume3.lower ≤ f := by omega
  have hs2 : r.fume2.upper ≤ f → 2 ≤ c.num ∧ r.fume2.lower ≤ f := by omega
  have hs1 : r.fume1.upper ≤ f → 1 ≤ c.num ∧ r.fume1.lower ≤ f := by omega
  simp only [r.fallFrom_eq, Record.heldClass, or_iff_right_of_imp hs3, or_iff_right_of_imp hs2, or_iff_right_of_imp hs1]

/-- R46, R47: the rise and the fall together leave the class that the thresholds hold. -/
theorem Record.judgeFume_eq_heldClass (r : Record) (f : Nat) (c : FumeClass) (h1 : r.fume1.lower < r.fume1.upper)
    (h2 : r.fume2.lower < r.fume2.upper) (h3 : r.fume3.lower < r.fume3.upper) :
    r.judgeFume f c = r.heldClass f c := by
  unfold Record.judgeFume
  split
  case isTrue hrise => exact (r.heldClass_of_rise f c hrise).symm
  case isFalse hfall => exact (r.heldClass_of_fall f c h1 h2 h3 (Nat.le_of_not_lt hfall)).symm

/-- R37: the sample timer is not in the record, and going on leaves the fume class. -/
theorem State.rearmSample_cfg_cls (s : State) :
    s.rearmSample.cfg = s.cfg ∧ s.rearmSample.fume.cls = s.fume.cls := by
  simp [State.rearmSample, State.cfg]

/-- R46, R47: a sample event judges the present class by the index that the event forms. -/
theorem State.sample_cls (s : State) (x : Quad Reading) :
    (s.sample x).fume.cls = s.cfg.judgeFume (s.sample x).fume.index s.fume.cls := by
  simp [State.sample]

/-- R37: with a valid record, a sample timer that has expired goes on to its next expiry and a sample event is taken. -/
theorem exec_sampleEvent_of_reached (s : State) (dt : Tu) (x : Quad Reading) (hrel : s.released = true)
    (hdue : reached (s.elapse dt).tu (s.elapse dt).fume.sampleExpiry = true)
    (hval : (s.elapse dt).recordValid = true) :
    exec (.sampleEvent dt x) s = .next (((s.elapse dt).rearmSample.sample x).serve) := by
  have harm : exec (.sampleEvent dt x) s = execSampleEvent dt x s := rfl
  rw [harm, execSampleEvent, live_released _ _ _ hrel, if_pos hdue, if_pos hval]

/-- Settles O19: the event's class is the model's judgement by the index formed (`State.sample_cls`), and that is the class
the thresholds hold (`Record.judgeFume_eq_heldClass`); of the thresholds' order, each class's lower one below its upper one
is all that it takes. -/
theorem fumeClassHasHysteresis : Obligations.FumeClassHasHysteresis := by
  intro s u dt x hrel hu hdue hval h1 h2 h3 _ _ _ _
  subst hu
  refine ⟨_, exec_sampleEvent_of_reached s dt x hrel hdue hval, ?_⟩
  rw [← Record.heldClass]
  simp only [State.serve_frame, State.sample_cls, State.rearmSample_cfg_cls]
  exact Record.judgeFume_eq_heldClass _ _ _ h1 h2 h3

end Sys2Proof.Machine
end

section
/-! The cause code and the FAULT relay (R175, R85). -/

namespace Sys2Proof.Machine

/-- R175: the code of a table of ranked causes, highest first: the number of the first cause that stands, or 0. -/
def firstStanding (stands : List (Nat × Bool)) : Nat :=
  ((stands.find? fun x => x.2).map Prod.fst).getD 0

@[simp] theorem firstStanding_nil : firstStanding [] = 0 :=
  rfl

/-- R175: a cause that stands outranks all that follow; one that does not leaves the code to them. -/
@[simp] theorem firstStanding_cons (n : Nat) (b : Bool) (rest : List (Nat × Bool)) :
    firstStanding ((n, b) :: rest) = if b then n else firstStanding rest := by
  cases b <;> rfl

/-- R85: no fault cause stands just when each of the six is absent; the last of them is the want of a valid record. -/
theorem State.faultCause_eq_false_iff (s : State) :
    s.faultCause = false ↔ s.line.isolated = false ∧ s.fanFault = false ∧ s.damperFault = false ∧
      s.sensorFault = false ∧ s.rx.duplicate = false ∧ s.store.record.isSome = true := by
  simp [State.faultCause, State.recordValid, and_assoc]

/-- R85: the FAULT relay is driven outside HOLD while no fault cause stands. -/
theorem State.faultRelayDrive_eq_true_iff (s : State) :
    s.faultRelayDrive = true ↔ s.zone.mode ≠ .hold ∧ s.faultCause = false := by
  simp [State.faultRelayDrive]

/-- Settles O17: `State.causeCode` asks for the causes in the order of R175's table, so it is the first that stands
(`firstStanding_cons`, cause by cause); the relay is the drive of R85 with its fault causes spelled out. -/
theorem causeCodeRanksTheCauses : Obligations.CauseCodeRanksTheCauses := by
  intro s stands
  have hcode : s.causeCode = firstStanding stands := by
    simp only [stands, firstStanding_cons, firstStanding_nil, decide_eq_true_eq]
    rfl
  exact ⟨hcode, s.faultRelayDrive_eq_true_iff.trans (and_congr_right' s.faultCause_eq_false_iff)⟩

end Sys2Proof.Machine
end

section
/-! What the operations on the fans keep, as one relation between the state before and after: the interlock of R94, the
capacity of the Start List, the pulse counts and the rest values of R90 and R105. The blocks outside the Fan Controller, the
Share Computer and the Transmit Unit stand. -/

namespace Sys2Proof.Machine

/-- R94, R115: the fan states that stand behind an OPEN extract damper alone. -/
def FanState.needsOpen : FanState → Bool
  | .waitSlot => true
  | .starting => true
  | .running => true
  | _ => false

theorem FanState.needsOpen_iff (st : FanState) :
    st.needsOpen = true ↔ st = .waitSlot ∨ st = .starting ∨ st = .running := by
  cases st <;> simp [FanState.needsOpen]

/-- The interlock, by the states that need an OPEN damper. -/
theorem State.interlocked_iff (s : State) :
    s.Interlocked ↔ ∀ f, (s.fan f).state.needsOpen = true → (s.damper (.ed f)).state = .opened := by
  simp only [State.Interlocked, FanState.needsOpen_iff]

/-- The blocks that no fan operation writes. -/
structure State.SameBlocks (s t : State) : Prop where
  dampers : t.dampers = s.dampers
  store : t.store = s.store
  view : t.view = s.view
  monitor : t.monitor = s.monitor
  zone : t.zone = s.zone
  forces : t.forces = s.forces
  rx : t.rx = s.rx
  failures : t.line.failures = s.line.failures

theorem State.SameBlocks.trans {s t u : State} (h : s.SameBlocks t) (k : t.SameBlocks u) : s.SameBlocks u :=
  ⟨k.dampers.trans h.dampers, k.store.trans h.store, k.view.trans h.view, k.monitor.trans h.monitor,
    k.zone.trans h.zone, k.forces.trans h.forces, k.rx.trans h.rx, k.failures.trans h.failures⟩

/-- The bounds of the Fan Controller's list and counters (R98, R104). -/
def State.FansBounded (s : State) : Prop :=
  s.fans.starts.length ≤ Config.startListCapacity ∧ ∀ f, (s.fan f).pulses ≤ Config.counterMax

/-- What an operation on the fans keeps. A fan comes to need an OPEN damper only where its damper is OPEN. -/
structure State.FanStep (s t : State) : Prop where
  blocks : s.SameBlocks t
  held : ∀ f, (t.fan f).state.needsOpen = true → (s.fan f).state.needsOpen = true ∨ (s.damper (.ed f)).state = .opened
  bounded : s.FansBounded → t.FansBounded
  rest : s.FansAtRest → t.FansAtRest

theorem State.FanStep.refl (s : State) : s.FanStep s :=
  ⟨⟨rfl, rfl, rfl, rfl, rfl, rfl, rfl, rfl⟩, fun _ h => .inl h, id, id⟩

theorem State.FanStep.trans {s t u : State} (h : s.FanStep t) (k : t.FanStep u) : s.FanStep u where
  blocks := h.blocks.trans k.blocks
  held f hf := by
    rcases k.held f hf with ht | ht
    · exact h.held f ht
    · exact .inr (by simpa [State.damper, h.blocks.dampers] using ht)
  bounded := k.bounded ∘ h.bounded
  rest := k.rest ∘ h.rest

/-- An operation that leaves the fans' records and s alone, and the Start List within its capacity. -/
theorem State.FanStep.of_units {s t : State} (blocks : s.SameBlocks t) (units : t.fans.units = s.fans.units)
    (setpoint : t.fans.setpoint = s.fans.setpoint)
    (starts : s.fans.starts.length ≤ Config.startListCapacity → t.fans.starts.length ≤ Config.startListCapacity) :
    s.FanStep t where
  blocks := blocks
  held f h := .inl (by simpa [State.fan, units] using h)
  bounded h := ⟨starts h.1, by simpa [State.fan, units] using h.2⟩
  rest h := by simpa [State.FansAtRest, State.anyTurning, State.runOutput, State.fan, units, setpoint] using h

/-- An operation that leaves the Fan Controller alone. -/
theorem State.FanStep.of_fans {s t : State} (blocks : s.SameBlocks t) (fans : t.fans = s.fans) : s.FanStep t :=
  .of_units blocks (by rw [fans]) (by rw [fans]) (by rw [fans]; exact id)

/-- Two records of a fan that agree in what the laws read. -/
structure FanUnit.Alike (u v : FanUnit) : Prop where
  state : v.state = u.state
  low : v.low = u.low
  judge : v.judge = u.judge
  pulses : v.pulses = u.pulses

theorem FanUnit.Alike.refl (u : FanUnit) : u.Alike u := ⟨rfl, rfl, rfl, rfl⟩

/-- An operation that changes the fans' claims, timers, causes or windows. -/
theorem State.FanStep.of_alike {s t : State} (blocks : s.SameBlocks t) (alike : ∀ f, (s.fan f).Alike (t.fan f))
    (setpoint : t.fans.setpoint = s.fans.setpoint) (starts : t.fans.starts = s.fans.starts) : s.FanStep t where
  blocks := blocks
  held f h := .inl (by rwa [(alike f).state] at h)
  bounded h := ⟨by rw [starts]; exact h.1, fun f => by rw [(alike f).pulses]; exact h.2 f⟩
  rest := by
    rintro ⟨hs, hr⟩
    refine ⟨by simpa only [State.anyTurning, State.runOutput, (alike _).state, setpoint] using hs, fun f hf => ?_⟩
    rw [(alike f).low, (alike f).judge]
    exact hr f (by rwa [(alike f).state] at hf)

/-- A change of one fan's claim, timers, cause or window. -/
theorem State.FanStep.setFan_alike {s : State} {f : Fan} {u : FanUnit} (h : (s.fan f).Alike u) :
    s.FanStep (s.setFan f u) := by
  refine .of_alike ⟨rfl, rfl, rfl, rfl, rfl, rfl, rfl, rfl⟩ (fun g => ?_) rfl rfl
  by_cases hg : g = f
  · subst hg; simpa using h
  · simpa [hg] using FanUnit.Alike.refl _

/-- R90: s is 0 after it has been held, where no fan turns. -/
theorem State.holdSetpoint_rest (s : State) (h : s.holdSetpoint.anyTurning = false) : s.holdSetpoint.fans.setpoint = 0 := by
  unfold State.holdSetpoint at h ⊢
  split
  · simp_all
  · rfl

/-- R90 to R96: a fan passes to a state; one that needs an OPEN damper is entered from another such or behind one. -/
theorem State.FanStep.moveFan {s : State} {f : Fan} {st : FanState}
    (h : st.needsOpen = true → (s.fan f).state.needsOpen = true ∨ (s.damper (.ed f)).state = .opened) :
    s.FanStep (s.moveFan f st) where
  blocks := by constructor <;> simp
  held g hg := by
    by_cases hf : g = f
    · subst hf; exact h (by simpa using hg)
    · exact .inl (by simpa [hf] using hg)
  bounded hb := by
    refine ⟨by simpa using hb.1, fun g => ?_⟩
    by_cases hf : g = f
    · subst hf; simpa [FanUnit.enter] using hb.2 g
    · simpa [hf] using hb.2 g
  rest hr := by
    refine ⟨State.holdSetpoint_rest _, fun g hg => ?_⟩
    by_cases hf : g = f
    · subst hf
      have hst : st ≠ .running := by simpa using hg
      simp [FanUnit.enter, hst]
    · simp only [State.moveFan_fan, if_neg hf] at hg ⊢
      exact hr.2 g hg

/-- A fan may always pass to a state that needs no OPEN damper. -/
theorem State.FanStep.moveFan_free {s : State} {f : Fan} {st : FanState} (h : st.needsOpen = false) :
    s.FanStep (s.moveFan f st) :=
  .moveFan fun hn => by simp [h] at hn

/-! ### Claims and the Start List -/

theorem State.FanStep.setClaim (s : State) (f : Fan) (c : ClaimState) (b : Option Tu) : s.FanStep (s.setClaim f c b) :=
  .setFan_alike ⟨rfl, rfl, rfl, rfl⟩

theorem State.FanStep.handRemoval (s : State) (e : ClaimEntry) : s.FanStep (s.handRemoval e) := by
  unfold State.handRemoval
  split
  · rename_i h
    exact .moveFan fun _ => .inl (by simp [h.2, FanState.needsOpen])
  · exact .refl s

/-- R98: the Start List replaced by one within its capacity. -/
theorem State.FanStep.setStarts (s : State) (l : List ClaimEntry)
    (h : s.fans.starts.length ≤ Config.startListCapacity → l.length ≤ Config.startListCapacity) :
    s.FanStep { s with fans := { s.fans with starts := l } } :=
  .of_units ⟨rfl, rfl, rfl, rfl, rfl, rfl, rfl, rfl⟩ rfl rfl h

theorem State.FanStep.dropSame (s : State) (e : ClaimEntry) : s.FanStep (s.dropSame e) := by
  unfold State.dropSame
  split
  · exact (State.FanStep.setStarts s _ fun h => (List.length_filter_le _ _).trans h).trans (.handRemoval _ _)
  · exact .refl s

theorem State.FanStep.appendClaim (s : State) (e : ClaimEntry) : s.FanStep (s.appendClaim e) := by
  unfold State.appendClaim
  split
  · exact .setStarts s _ fun _ => by simp [Config.startListCapacity]
  · rename_i h t hs
    split
    · rename_i hlt
      exact .setStarts s _ fun _ => by simpa using hlt
    · refine (State.FanStep.setStarts s _ fun hb => ?_).trans (.handRemoval _ _)
      simpa [hs] using hb

theorem State.FanStep.takeEntry (s : State) (e : ClaimEntry) : s.FanStep (s.takeEntry e) := by
  unfold State.takeEntry
  split
  · exact (State.FanStep.dropSame s e).trans (.appendClaim _ e)
  · exact .dropSame s e

theorem State.FanStep.startFan (s : State) (f : Fan) : s.FanStep (s.startFan f) := by
  unfold State.startFan
  split
  · rename_i h
    exact (State.FanStep.setClaim s f _ _).trans (.moveFan fun _ => .inl (by simp [h, FanState.needsOpen]))
  · exact .setClaim s f _ _

theorem State.FanStep.decideClaim (s : State) (f : Fan) (e : ClaimEntry) : s.FanStep (s.decideClaim f e) := by
  unfold State.decideClaim
  split
  · exact (State.FanStep.takeEntry s e).trans (.startFan _ f)
  · exact (State.FanStep.takeEntry s e).trans (.setClaim _ f _ _)

/-- The Transmit Unit is no block of the laws. -/
theorem State.FanStep.setTx (s : State) (tx : Transmit) : s.FanStep { s with tx := tx } :=
  .of_fans ⟨rfl, rfl, rfl, rfl, rfl, rfl, rfl, rfl⟩ rfl

/-- Nor is the Share Computer, but for the service of its requests. -/
theorem State.FanStep.setShare (s : State) (x : Share) : s.FanStep { s with share := x } :=
  .of_fans ⟨rfl, rfl, rfl, rfl, rfl, rfl, rfl, rfl⟩ rfl

theorem State.FanStep.setBegun (s : State) (x : PerFan Bool) :
    s.FanStep { s with fans := { s.fans with begun := x } } :=
  .of_units ⟨rfl, rfl, rfl, rfl, rfl, rfl, rfl, rfl⟩ rfl rfl id

theorem State.FanStep.giveClaim (s : State) (f : Fan) : s.FanStep (s.giveClaim f) := by
  unfold State.giveClaim
  split
  · exact .decideClaim s f _
  · exact .setTx s _

theorem State.FanStep.handClaim (s : State) (f : Fan) : s.FanStep (s.handClaim f) :=
  (State.FanStep.setClaim s f _ _).trans (.giveClaim _ f)

theorem State.FanStep.startClaim (s : State) (f : Fan) : s.FanStep (s.startClaim f) := by
  unfold State.startClaim
  split
  · exact .refl s
  · exact (State.FanStep.setClaim s f _ _).trans (.setBegun _ _)

theorem State.FanStep.placeClaim (s : State) (f : Fan) : s.FanStep (s.placeClaim f) := by
  unfold State.placeClaim
  simp only
  split
  · refine (State.FanStep.setBegun s (s.fans.begun.set f false)).trans ?_
    split
    · exact .giveClaim _ f
    · exact .refl _
  · exact .refl s

theorem State.FanStep.placeClaims (s : State) : s.FanStep s.placeClaims :=
  (State.FanStep.placeClaim s .A).trans (.placeClaim _ .B)

theorem State.FanStep.abortClaim (s : State) (f : Fan) : s.FanStep (s.abortClaim f) := by
  unfold State.abortClaim
  split
  · exact (State.FanStep.setClaim s f _ _).trans (.setTx _ _)
  · exact (State.FanStep.setClaim s f _ _).trans (.setTx _ _)
  · exact .setClaim s f _ _
  · exact .refl s
  · exact .refl s

theorem State.FanStep.reclaim (s : State) (f : Fan) : s.FanStep (s.reclaim f) := by
  unfold State.reclaim
  split
  · exact (State.FanStep.setClaim s f _ _).trans (.startClaim _ f)
  · exact .refl s

/-! ### The fan state machine -/

theorem State.FanStep.leaveStopped (s : State) (f : Fan) : s.FanStep (s.leaveStopped f) := by
  unfold State.leaveStopped
  split
  · rename_i h
    exact (State.FanStep.moveFan fun _ => .inr h).trans (.startClaim _ f)
  · exact .refl s
  · exact .moveFan_free rfl

theorem State.FanStep.endRundown (s : State) (f : Fan) : s.FanStep (s.endRundown f) := by
  have timer : s.FanStep (s.setFan f { s.fan f with rundown := none }) := .setFan_alike ⟨rfl, rfl, rfl, rfl⟩
  have stop := timer.trans (.moveFan_free (f := f) (st := .stopped) rfl)
  unfold State.endRundown
  simp only
  split
  · exact stop.trans (.leaveStopped _ f)
  · exact stop

theorem State.FanStep.enterRundown (s : State) (f : Fan) : s.FanStep (s.enterRundown f) := by
  have enter : s.FanStep (s.moveFan f .rundown) := .moveFan_free rfl
  have timer : ∀ (t : State) (e : Option Tu), t.FanStep (t.setFan f { t.fan f with rundown := e }) :=
    fun t e => .setFan_alike ⟨rfl, rfl, rfl, rfl⟩
  unfold State.enterRundown
  simp only
  split
  · exact (enter.trans (timer _ _)).trans (.endRundown _ f)
  · exact enter.trans (timer _ _)

theorem State.FanStep.answerNeed (s : State) (f : Fan) : s.FanStep (s.answerNeed f) := by
  unfold State.answerNeed
  split
  · split
    · exact .leaveStopped s f
    · exact .refl s
  · split
    · exact .moveFan_free rfl
    · exact (State.FanStep.abortClaim s f).trans (.moveFan_free rfl)
    · exact .enterRundown s f
    · exact .enterRundown s f
    · exact .refl s

theorem State.FanStep.stage (s : State) : s.FanStep s.stage := by
  have count : s.FanStep { s with fans := { s.fans with
      staging := stagingFor s.availableCount s.fans.target s.fans.staging } } :=
    .of_units ⟨rfl, rfl, rfl, rfl, rfl, rfl, rfl, rfl⟩ rfl rfl id
  exact (count.trans (.answerNeed _ .A)).trans (.answerNeed _ .B)

theorem State.FanStep.notice (s : State) : s.FanStep s.notice :=
  .of_fans (by constructor <;> simp) (by simp)

theorem State.FanStep.recompute (s : State) : s.FanStep s.recompute :=
  .of_fans (by constructor <;> simp) (by simp)

theorem State.FanStep.fmaxChanged (s : State) : s.FanStep s.fmaxChanged :=
  .of_fans (by constructor <;> simp) (by simp)

theorem State.FanStep.noticeFanFault (s : State) (b : Bool) : s.FanStep (s.noticeFanFault b) :=
  .of_fans (by constructor <;> simp) (by simp)

theorem State.FanStep.serve (s : State) : s.FanStep s.serve :=
  .of_fans (by constructor <;> simp) (by simp)

theorem State.FanStep.faultFan (s : State) (f : Fan) (c : FanFault) : s.FanStep (s.faultFan f c) := by
  have clear : ∀ t : State, t.FanStep
      (t.setFan f { t.fan f with cause := some c, rundown := none, backoff := none }) :=
    fun t => .setFan_alike ⟨rfl, rfl, rfl, rfl⟩
  have fault : ∀ t : State, t.FanStep (t.moveFan f .faulted) := fun t => .moveFan_free rfl
  unfold State.faultFan
  simp only
  split
  · exact .refl s
  · exact ((State.FanStep.abortClaim s f).trans (clear _)).trans
      ((fault _).trans ((State.FanStep.fmaxChanged _).trans ((State.FanStep.noticeFanFault _ _).trans (.stage _))))

theorem State.FanStep.fanReachesOpen (s : State) (f : Fan) (h : (s.damper (.ed f)).state = .opened) :
    s.FanStep (s.fanReachesOpen f) := by
  unfold State.fanReachesOpen
  split
  · exact (State.FanStep.moveFan fun _ => .inr h).trans (.startClaim _ f)
  · exact .refl s

theorem State.FanStep.fanLeavesOpen (s : State) (f : Fan) : s.FanStep (s.fanLeavesOpen f) := by
  unfold State.fanLeavesOpen
  split
  · exact .enterRundown s f
  · exact .enterRundown s f
  · exact (State.FanStep.abortClaim s f).trans (.moveFan_free rfl)
  · exact .refl s

end Sys2Proof.Machine
end

section
/-! What an operation on one fan does to the fans' records: the other fan keeps its own, claims change no fan's state, and a
fan ends where its operation says. -/

namespace Sys2Proof.Machine

/-! ### Reading a record through an update of the state

`State.fan`, `State.damper` and `State.cfg` are the one spelling of a record read: a read through an update of the state comes
back to them. -/

@[simp] theorem State.fan_mk (tu released pins store view share fume monitor zone fans dampers line rx tx forces port pending)
    (f : Fan) : State.fan ⟨tu, released, pins, store, view, share, fume, monitor, zone, fans, dampers, line, rx, tx, forces,
      port, pending⟩ f = fans.units.get f := rfl

@[simp] theorem State.units_get (s : State) (f : Fan) : s.fans.units.get f = s.fan f := rfl

@[simp] theorem State.damper_mk (tu released pins store view share fume monitor zone fans dampers line rx tx forces port
    pending) (d : DamperId) : State.damper ⟨tu, released, pins, store, view, share, fume, monitor, zone, fans, dampers, line,
      rx, tx, forces, port, pending⟩ d = dampers.get d := rfl

@[simp] theorem State.dampers_get (s : State) (d : DamperId) : s.dampers.get d = s.damper d := rfl

@[simp] theorem State.cfg_mk (tu released pins store view share fume monitor zone fans dampers line rx tx forces port pending) :
    State.cfg ⟨tu, released, pins, store, view, share, fume, monitor, zone, fans, dampers, line, rx, tx, forces, port,
      pending⟩ = store.record.getD Record.absent := rfl

@[simp] theorem State.record_getD (s : State) : s.store.record.getD Record.absent = s.cfg := rfl

theorem State.damper_congr {s t : State} (h : t.dampers = s.dampers) (d : DamperId) : t.damper d = s.damper d := by
  rw [State.damper, h, State.dampers_get]

theorem State.fan_congr {s t : State} (h : t.fans = s.fans) (f : Fan) : t.fan f = s.fan f := by
  rw [State.fan, h, State.units_get]

@[simp] theorem State.moveFan_damper (s : State) (f : Fan) (st : FanState) (d : DamperId) :
    (s.moveFan f st).damper d = s.damper d := State.damper_congr (by simp) d

@[simp] theorem State.setClaim_damper (s : State) (f : Fan) (c : ClaimState) (b : Option Tu) (d : DamperId) :
    (s.setClaim f c b).damper d = s.damper d := rfl

@[simp] theorem State.setFan_cfg (s : State) (f : Fan) (u : FanUnit) : (s.setFan f u).cfg = s.cfg := rfl

@[simp] theorem State.setClaim_cfg (s : State) (f : Fan) (c : ClaimState) (b : Option Tu) :
    (s.setClaim f c b).cfg = s.cfg := rfl

@[simp] theorem State.moveFan_cfg (s : State) (f : Fan) (st : FanState) : (s.moveFan f st).cfg = s.cfg :=
  State.cfg_of_store (by simp)

/-! ### The other fan -/

theorem State.startClaim_fan_of_ne (s : State) {f g : Fan} (h : g ≠ f) : (s.startClaim f).fan g = s.fan g := by
  unfold State.startClaim
  split
  · rfl
  · exact (State.setClaim_fan s f g _ _).trans (if_neg h)

theorem State.abortClaim_fan_of_ne (s : State) {f g : Fan} (h : g ≠ f) : (s.abortClaim f).fan g = s.fan g := by
  unfold State.abortClaim
  split
  case h_4 | h_5 => rfl
  all_goals exact (State.setClaim_fan s f g _ _).trans (if_neg h)

theorem State.leaveStopped_fan_of_ne (s : State) {f g : Fan} (h : g ≠ f) : (s.leaveStopped f).fan g = s.fan g := by
  unfold State.leaveStopped
  split <;> simp [h, State.startClaim_fan_of_ne]

theorem State.endRundown_fan_of_ne (s : State) {f g : Fan} (h : g ≠ f) : (s.endRundown f).fan g = s.fan g := by
  unfold State.endRundown
  simp only
  split <;> simp [h, State.leaveStopped_fan_of_ne]

theorem State.enterRundown_fan_of_ne (s : State) {f g : Fan} (h : g ≠ f) : (s.enterRundown f).fan g = s.fan g := by
  unfold State.enterRundown
  simp only
  split <;> simp [h, State.endRundown_fan_of_ne]

theorem State.answerNeed_fan_of_ne (s : State) {f g : Fan} (h : g ≠ f) : (s.answerNeed f).fan g = s.fan g := by
  unfold State.answerNeed
  (repeat' split) <;>
    simp [h, State.leaveStopped_fan_of_ne, State.abortClaim_fan_of_ne, State.enterRundown_fan_of_ne]

theorem State.fanReachesOpen_fan_of_ne (s : State) {f g : Fan} (h : g ≠ f) :
    (s.fanReachesOpen f).fan g = s.fan g := by
  unfold State.fanReachesOpen
  split <;> simp [h, State.startClaim_fan_of_ne]

theorem State.fanLeavesOpen_fan_of_ne (s : State) {f g : Fan} (h : g ≠ f) :
    (s.fanLeavesOpen f).fan g = s.fan g := by
  unfold State.fanLeavesOpen
  split <;> simp [h, State.abortClaim_fan_of_ne, State.enterRundown_fan_of_ne]

/-! ### The fan itself -/

/-- R101, R102: the record of a fan that starts a claim. -/
theorem State.startClaim_fan (s : State) (f : Fan) :
    (s.startClaim f).fan f =
      if (s.fan f).claim = .abandoned then s.fan f else { s.fan f with claim := .waiting, backoff := none } := by
  unfold State.startClaim
  split <;> simp

/-- R101: to start a claim changes no fan's state. -/
@[simp] theorem State.startClaim_state (s : State) (f g : Fan) : ((s.startClaim f).fan g).state = (s.fan g).state := by
  by_cases h : g = f
  · subst h; rw [s.startClaim_fan g]; split <;> rfl
  · rw [s.startClaim_fan_of_ne h]

/-- R102: the claim state after an abort. -/
def ClaimState.aborted : ClaimState → ClaimState
  | .sending => .abandoned
  | .abandoned => .abandoned
  | _ => .none

/-- R102: the record of a fan whose claim is aborted. -/
theorem State.abortClaim_fan (s : State) (f : Fan) : ∃ b, (s.abortClaim f).fan f =
    { s.fan f with claim := (s.fan f).claim.aborted, backoff := b } := by
  unfold State.abortClaim
  cases h : (s.fan f).claim <;> simp only [State.fan_mk, State.units_get, State.setClaim_fan, if_pos, ClaimState.aborted]
  case abandoned | none => exact ⟨_, by rw [← h]⟩
  all_goals exact ⟨_, rfl⟩

/-- R102: an abort changes no fan's state. -/
@[simp] theorem State.abortClaim_state (s : State) (f g : Fan) : ((s.abortClaim f).fan g).state = (s.fan g).state := by
  by_cases h : g = f
  · subst h; obtain ⟨b, hb⟩ := s.abortClaim_fan g; rw [hb]
  · rw [s.abortClaim_fan_of_ne h]

/-- R92: behind a damper that is not OPEN no STOPPED fan comes to need one. -/
theorem State.leaveStopped_free (s : State) (f : Fan) (hd : (s.damper (.ed f)).state ≠ .opened)
    (hs : (s.fan f).state.needsOpen = false) : ((s.leaveStopped f).fan f).state.needsOpen = false := by
  unfold State.leaveStopped
  split
  · contradiction
  · exact hs
  · simp [FanState.needsOpen]

theorem State.endRundown_free (s : State) (f : Fan) (hd : (s.damper (.ed f)).state ≠ .opened) :
    ((s.endRundown f).fan f).state.needsOpen = false := by
  unfold State.endRundown
  simp only
  split
  · exact State.leaveStopped_free _ f (by simpa using hd) (by simp [FanState.needsOpen])
  · simp [FanState.needsOpen]

theorem State.enterRundown_free (s : State) (f : Fan) (hd : (s.damper (.ed f)).state ≠ .opened) :
    ((s.enterRundown f).fan f).state.needsOpen = false := by
  unfold State.enterRundown
  simp only
  split
  · exact State.endRundown_free _ f (by simpa using hd)
  · simp [FanState.needsOpen]

/-- R115: a fan whose damper has left OPEN needs it no longer. -/
theorem State.fanLeavesOpen_free (s : State) (f : Fan) (hd : (s.damper (.ed f)).state ≠ .opened) :
    ((s.fanLeavesOpen f).fan f).state.needsOpen = false := by
  unfold State.fanLeavesOpen
  split
  · exact State.enterRundown_free s f hd
  · exact State.enterRundown_free s f hd
  · simp [FanState.needsOpen]
  · cases hs : (s.fan f).state <;> simp_all [FanState.needsOpen]

/-- R24, R88: no fan's record changes with Fmax_eff or with a notice. -/
@[simp] theorem State.fmaxChanged_fan (s : State) (g : Fan) : s.fmaxChanged.fan g = s.fan g :=
  State.fan_congr (by simp) g

@[simp] theorem State.noticeFanFault_fan (s : State) (b : Bool) (g : Fan) : (s.noticeFanFault b).fan g = s.fan g :=
  State.fan_congr (by simp) g

/-- R88: a fan FAULTED is not available, and so not needed. -/
theorem State.needed_of_faulted (s : State) (f : Fan) (h : (s.fan f).state = .faulted) : s.needed f = false := by
  simp [State.needed, State.available, h]

/-- R92 to R95: a fan FAULTED answers no need. -/
theorem State.answerNeed_of_faulted (s : State) (f : Fan) (h : (s.fan f).state = .faulted) : s.answerNeed f = s := by
  simp [State.answerNeed, s.needed_of_faulted f h, h]

/-- R89: staging leaves the record of a fan FAULTED as it stands. -/
theorem State.stage_fan_of_faulted (s : State) (f : Fan) (h : (s.fan f).state = .faulted) : s.stage.fan f = s.fan f := by
  have keep : ∀ (t : State) (g : Fan), (t.fan f).state = .faulted → (t.answerNeed g).fan f = t.fan f := by
    intro t g ht
    by_cases hg : f = g
    · subst hg; rw [t.answerNeed_of_faulted f ht]
    · exact t.answerNeed_fan_of_ne hg
  unfold State.stage
  simp only
  rw [keep, keep]
  · rfl
  · exact h
  · rw [keep] <;> exact h

/-- R96: the record of a fan that becomes FAULTED. -/
theorem State.faultFan_fan (s : State) (f : Fan) (c : FanFault) (h : (s.fan f).state ≠ .faulted) :
    (s.faultFan f c).fan f =
      FanUnit.enter { s.fan f with claim := (s.fan f).claim.aborted, cause := some c, rundown := none, backoff := none }
        .faulted := by
  obtain ⟨b, hb⟩ := s.abortClaim_fan f
  unfold State.faultFan
  simp only
  rw [if_neg h, State.stage_fan_of_faulted] <;> simp [hb]

theorem State.faultFan_state (s : State) (f : Fan) (c : FanFault) : ((s.faultFan f c).fan f).state = .faulted := by
  by_cases h : (s.fan f).state = .faulted
  · rw [State.faultFan, if_pos h, h]
  · rw [s.faultFan_fan f c h]; rfl

end Sys2Proof.Machine
end

section
/-! What every operation of the part keeps: the laws of Safety.lean but for the two that only the end of an event restores,
as one relation between the state before and after. -/

namespace Sys2Proof.Machine

/-- R56 to R79, R164: the laws of the mode, the declaration, their timers and the forces. -/
def State.ModeLaws (s : State) : Prop := s.ModeSound ∧ s.TimersSound ∧ s.ForcesSound

/-- The bounds outside the Fan Controller (R1, R5, R131, R142, R146). -/
def State.BlocksBounded (s : State) : Prop :=
  s.view.entries.length ≤ Config.viewCapacity ∧ s.rx.fifoA.length ≤ Config.fifoACapacity ∧
  s.rx.fifoB.length ≤ Config.fifoBCapacity ∧ s.view.refused ≤ Config.counterMax ∧
  s.rx.errors ≤ Config.counterMax ∧ s.rx.lost ≤ Config.counterMax ∧ s.line.failures ≤ Config.failureLimit

theorem State.bounded_iff (s : State) : s.Bounded ↔ s.BlocksBounded ∧ s.FansBounded := by
  simp only [State.Bounded, State.BlocksBounded, State.FansBounded]
  tauto

/-- What an operation keeps, the laws of the mode apart. -/
structure State.KeepsMost (s t : State) : Prop where
  interlock : s.Interlocked → t.Interlocked
  dampers : s.DampersSound → t.DampersSound
  ordered : s.Ordered → t.Ordered
  blocks : s.BlocksBounded → t.BlocksBounded
  fans : s.FansBounded → t.FansBounded
  record : s.RecordSound → t.RecordSound
  rest : s.FansAtRest → t.FansAtRest

theorem State.KeepsMost.refl (s : State) : s.KeepsMost s := ⟨id, id, id, id, id, id, id⟩

theorem State.KeepsMost.trans {s t u : State} (h : s.KeepsMost t) (k : t.KeepsMost u) : s.KeepsMost u :=
  ⟨k.interlock ∘ h.interlock, k.dampers ∘ h.dampers, k.ordered ∘ h.ordered, k.blocks ∘ h.blocks, k.fans ∘ h.fans,
    k.record ∘ h.record, k.rest ∘ h.rest⟩

/-- What an operation keeps. -/
structure State.Keeps (s t : State) : Prop extends State.KeepsMost s t where
  modes : s.ModeLaws → t.ModeLaws

theorem State.Keeps.refl (s : State) : s.Keeps s := ⟨.refl s, id⟩

theorem State.Keeps.trans {s t u : State} (h : s.Keeps t) (k : t.Keeps u) : s.Keeps u :=
  ⟨h.toKeepsMost.trans k.toKeepsMost, k.modes ∘ h.modes⟩

/-- R108, R109: what one damper's part keeps, the whole row of dampers keeps. -/
theorem State.Keeps.foldl {α : Type} {op : State → α → State} (h : ∀ (t : State) x, t.Keeps (op t x)) (l : List α) (s : State) :
    s.Keeps (l.foldl op s) := by
  induction l generalizing s with
  | nil => exact .refl s
  | cons x xs ih => exact (h s x).trans (ih _)

/-- An operation on the fans keeps the laws. -/
theorem State.FanStep.keeps {s t : State} (h : s.FanStep t) : s.Keeps t where
  interlock hi := by
    rw [State.interlocked_iff] at hi ⊢
    intro f hf
    have := (h.held f hf).elim (hi f) id
    rwa [State.damper_congr h.blocks.dampers]
  dampers := by simp [State.DampersSound, State.damper_congr h.blocks.dampers]
  modes := by
    simp [State.ModeLaws, State.ModeSound, State.TimersSound, State.ForcesSound, h.blocks.zone, h.blocks.monitor,
      h.blocks.forces]
  ordered := by simp [State.Ordered, h.blocks.view, h.blocks.zone]
  blocks := by simp [State.BlocksBounded, h.blocks.view, h.blocks.rx, h.blocks.failures]
  fans := h.bounded
  record := by simp [State.RecordSound, h.blocks.store]
  rest := h.rest

/-- An operation that leaves the fans and the dampers alone, told by what it does to the other blocks. -/
theorem State.KeepsMost.of_blocks {s t : State} (fans : t.fans = s.fans) (dampers : t.dampers = s.dampers)
    (ordered : s.Ordered → t.Ordered) (blocks : s.BlocksBounded → t.BlocksBounded)
    (record : s.RecordSound → t.RecordSound) : s.KeepsMost t where
  interlock := by simp [State.Interlocked, State.fan_congr fans, State.damper_congr dampers]
  dampers := by simp [State.DampersSound, State.damper_congr dampers]
  ordered := ordered
  blocks := blocks
  fans := by simp [State.FansBounded, State.fan_congr fans, fans]
  record := record
  rest := by simp [State.FansAtRest, State.anyTurning, State.runOutput, State.fan_congr fans, fans]

/-! ### The dampers -/

/-- R115: what a damper's change does to its fan is an operation on the fans. -/
theorem State.FanStep.handDamper (s : State) (d : DamperId) (before : DamperState) :
    s.FanStep (s.handDamper d before (s.damper d).state) := by
  unfold State.handDamper
  split
  · exact .refl s
  · rename_i f
    by_cases same : before = (s.damper (.ed f)).state
    · rw [if_pos same]; exact .refl s
    by_cases stuck : (s.damper (.ed f)).state = .stuck
    · rw [if_neg same, if_pos stuck]; exact .faultFan s f _
    by_cases opened : (s.damper (.ed f)).state = .opened
    · rw [if_neg same, if_neg stuck, if_pos opened]; exact .fanReachesOpen s f opened
    rw [if_neg same, if_neg stuck, if_neg opened]
    split
    · exact .fanLeavesOpen s f
    · exact .refl s

/-- R115: a fan whose damper has left OPEN, or was not OPEN, needs it no longer once it has been told. -/
theorem State.handDamper_free (s : State) (f : Fan) (before : DamperState)
    (hs : (s.fan f).state.needsOpen = true → before = .opened) (opened : (s.damper (.ed f)).state ≠ .opened) :
    ((s.handDamper (.ed f) before (s.damper (.ed f)).state).fan f).state.needsOpen = false := by
  have away : before ≠ .opened → (s.fan f).state.needsOpen = false := fun h => by
    cases hn : (s.fan f).state.needsOpen with
    | false => rfl
    | true => exact absurd (hs hn) h
  unfold State.handDamper
  simp only
  by_cases same : before = (s.damper (.ed f)).state
  · rw [if_pos same]; exact away (same ▸ opened)
  by_cases stuck : (s.damper (.ed f)).state = .stuck
  · rw [if_neg same, if_pos stuck, s.faultFan_state]; rfl
  rw [if_neg same, if_neg stuck, if_neg opened]
  split
  · exact s.fanLeavesOpen_free f opened
  · rename_i h; exact away h

/-- R115: a damper's record replaced by one that is in order, its fan being told. A fan behind a damper that leaves OPEN is
taken out of the states that need it. -/
theorem State.Keeps.moveDamper {s : State} {d : DamperId} {u : DamperUnit} (h : (s.damper d).Sound → u.Sound) :
    s.Keeps (s.moveDamper d u) := by
  have told : (s.setDamper d u).FanStep (s.moveDamper d u) := by
    have := State.FanStep.handDamper (s.setDamper d u) d (s.damper d).state
    simpa [State.moveDamper] using this
  have own : (s.moveDamper d u).damper d = u := by rw [State.damper_congr told.blocks.dampers]; simp
  have others : ∀ d', d' ≠ d → (s.moveDamper d u).damper d' = s.damper d' := fun d' hd => by
    rw [State.damper_congr told.blocks.dampers]; simp [hd]
  refine ⟨⟨fun hi => ?_, fun hd d' => ?_, told.keeps.ordered, told.keeps.blocks, told.keeps.fans, told.keeps.record,
    told.keeps.rest⟩, told.keeps.modes⟩
  · rw [State.interlocked_iff] at hi ⊢
    intro f hf
    by_cases hfd : DamperId.ed f = d
    · subst hfd
      by_contra hopen
      have free := State.handDamper_free (s.setDamper (.ed f) u) f (s.damper (.ed f)).state (hi f)
        (by rw [own] at hopen; simpa using hopen)
      simp [State.moveDamper] at hf free
      simp [hf] at free
    · rw [others _ hfd]
      rcases told.held f hf with hs | hs
      · exact hi f hs
      · simpa [hfd] using hs
  · by_cases he : d' = d
    · subst he; rw [own]; exact h (hd d')
    · rw [others d' he]; exact hd d'

theorem DamperUnit.Sound.stuckFor {u : DamperUnit} (h : u.fitted = true) (r : StuckReason) : (u.stuckFor r).Sound := by
  simp [DamperUnit.Sound, DamperUnit.stuckFor, h]

theorem DamperUnit.Sound.travelling {u : DamperUnit} (h : u.fitted = true) (toOpen : Bool) (l : Limits) (e : Tu) :
    (u.travelling toOpen l e).Sound := by
  unfold DamperUnit.travelling
  (repeat' split) <;> simp [DamperUnit.Sound, h]

theorem DamperUnit.Sound.settled {u : DamperUnit} (h : u.fitted = true) (toOpen : Bool) (l : Limits) (e : Tu) :
    (u.settled toOpen l e).Sound := by
  unfold DamperUnit.settled
  split
  · exact .stuckFor h _
  · simp [DamperUnit.Sound, h]
  · simp [DamperUnit.Sound, h]
  · exact .travelling h ..

theorem DamperUnit.Sound.unfitted : DamperUnit.unfitted.Sound := by simp [DamperUnit.Sound, DamperUnit.unfitted]

/-- R111 to R113: the activation of a limit leaves a damper in order. -/
theorem DamperUnit.Sound.onLimit {u : DamperUnit} (h : u.fitted = true) (w : LimitId) (l : Limits) (e : Tu)
    (hu : u.Sound) : (u.onLimit w l e).Sound := by
  unfold DamperUnit.onLimit
  split
  · exact hu
  split
  · exact .stuckFor h _
  have reason : u.reason = none := by simpa [*] using hu.2.2.1
  have travel := hu.1
  split <;> (try split) <;> simp_all [DamperUnit.Sound]

/-- R111: so does a deactivation. -/
theorem DamperUnit.Sound.offLimit {u : DamperUnit} (h : u.fitted = true) (w : LimitId) (e : Tu) (hu : u.Sound) :
    (u.offLimit w e).Sound := by
  have keep := hu
  obtain ⟨travel, -, reason, -⟩ := hu
  unfold DamperUnit.offLimit
  split
  case h_3 => exact keep
  all_goals split
  · simp_all [DamperUnit.Sound]
  · exact keep
  · simp_all [DamperUnit.Sound]
  · exact keep

theorem State.Keeps.driveDamper (s : State) (d : DamperId) : s.Keeps (s.driveDamper d) := by
  unfold State.driveDamper
  simp only
  split
  · rename_i hf
    have go := State.Keeps.moveDamper (s := s) (d := d) fun _ => .travelling hf (s.effectiveCommand d)
      (s.pins.limits.get d) s.travelExpiry
    split
    case h_5 => exact .refl s
    case h_1 | h_2 =>
      split
      · exact .refl s
      · exact go
    case h_3 | h_4 =>
      split
      · exact go
      · exact .refl s
  · exact .refl s

theorem State.Keeps.settleByLimits (s : State) (d : DamperId) (h : (s.damper d).fitted = true) :
    s.Keeps (s.settleByLimits d) :=
  .moveDamper fun _ => .settled h ..

theorem State.Keeps.driveDampers (s : State) : s.Keeps s.driveDampers := by
  have extracts : s.Keeps s.driveExtracts :=
    ((State.FanStep.placeClaim s .A).keeps.trans (.driveDamper _ _)).trans
      ((State.FanStep.placeClaims _).keeps.trans (.driveDamper _ _))
  exact extracts.trans (.foldl (fun t k => .driveDamper t (.td k)) _ _)

/-- The end of an event keeps the laws. -/
theorem State.Keeps.finish (s : State) : s.Keeps s.finish :=
  (State.Keeps.driveDampers s).trans ((State.FanStep.placeClaims _).trans (.serve _)).keeps

end Sys2Proof.Machine
end

section
/-! The laws kept by the Mode Controller, the Fire Point Monitor and the Peer View. -/

namespace Sys2Proof.Machine

/-! ### Operations outside the laws -/

/-- The laws of the mode read the zone, the monitor and the forces alone. -/
theorem State.ModeLaws.congr {s t : State} (zone : t.zone = s.zone) (monitor : t.monitor = s.monitor)
    (forces : t.forces = s.forces) (h : s.ModeLaws) : t.ModeLaws := by
  simpa only [State.ModeLaws, State.ModeSound, State.TimersSound, State.ForcesSound, zone, monitor, forces] using h

theorem State.Keeps.recompute (s : State) : s.Keeps s.recompute := (State.FanStep.recompute s).keeps

/-! ### The change of mode -/

/-- R71: a change of mode keeps every law but those of the mode, which the event that makes it answers for. -/
theorem State.KeepsMost.enterMode (s : State) (m : Mode) : s.KeepsMost (s.enterMode m) := by
  have start : ∀ z f, z.contain = s.zone.contain → s.KeepsMost { s with zone := z, forces := f } := by
    intro z f hz
    exact .of_blocks rfl rfl (by simp [State.Ordered, hz]) id id
  have beat : ∀ t : State, t.KeepsMost t.startHeartbeat := fun t => (State.FanStep.setTx t _).keeps.toKeepsMost
  have stage : ∀ t : State, t.KeepsMost t.recompute := fun t => (State.FanStep.recompute t).keeps.toKeepsMost
  have claims : ∀ t : State, t.KeepsMost (if m = .fire then (t.reclaim .A).reclaim .B else t) := fun t => by
    split
    · exact ((State.FanStep.reclaim t .A).trans (.reclaim _ .B)).keeps.toKeepsMost
    · exact .refl t
  have left : ∀ t : State, t.KeepsMost (if s.zone.mode = .listen then t.startHeartbeat else t) := fun t => by
    split
    · exact beat t
    · exact .refl t
  exact (start _ _ (by rfl)).trans ((left _).trans ((stage _).trans (claims _)))

/-- R56 to R79: what the laws of the mode say, by cases of no other law. -/
theorem State.modeLaws_iff (s : State) : s.ModeLaws ↔
    ((s.zone.contain ≠ [] → s.zone.mode = .contain ∨ s.zone.mode = .fire) ∧
      (s.zone.mode = .contain → s.zone.contain ≠ []) ∧ (s.monitor.decl = .declared ↔ s.zone.mode = .fire) ∧
      (s.monitor.evaluation = true ↔ s.zone.mode ≠ .hold) ∧ (s.zone.mode = .hold → s.monitor.decl = .clear)) ∧
    ((s.zone.listen.isSome = true ↔ s.zone.mode = .listen) ∧ (s.zone.purge.isSome = true ↔ s.zone.mode = .purge) ∧
      (s.monitor.confirm.isSome = true ↔ s.monitor.decl = .preAlarm) ∧
      (s.monitor.cause.isSome = true ↔ s.monitor.decl = .declared)) ∧
    (s.zone.mode ≠ .hold → s.zone.mode ≠ .normal → s.forces = Forces.clear) := Iff.rfl

@[simp] theorem State.listenTimerFor_isSome (s : State) (m : Mode) :
    (s.listenTimerFor m).isSome = decide (m = .listen) := by
  unfold State.listenTimerFor
  split <;> simp [*]

@[simp] theorem State.purgeTimerFor_isSome (s : State) (m : Mode) :
    (s.purgeTimerFor m).isSome = decide (m = .purge) := by
  unfold State.purgeTimerFor
  split <;> simp [*]

/-- R71: after a change of mode the laws hold that its contain list, its declaration and its evaluation agree with. -/
theorem State.ModeLaws.enterMode {s : State} {m : Mode} (contain : s.zone.contain ≠ [] → m = .contain ∨ m = .fire)
    (list : m = .contain → s.zone.contain ≠ []) (decl : s.monitor.decl = .declared ↔ m = .fire)
    (evaluation : s.monitor.evaluation = true) (hold : m ≠ .hold)
    (confirm : s.monitor.confirm.isSome = true ↔ s.monitor.decl = .preAlarm)
    (cause : s.monitor.cause.isSome = true ↔ s.monitor.decl = .declared) : (s.enterMode m).ModeLaws := by
  have forces : m ≠ .normal → (if m.dropsForces then Forces.clear else s.forces) = Forces.clear := by
    intro hn; cases m <;> simp_all [Mode.dropsForces]
  rw [State.modeLaws_iff]
  simp only [State.enterMode_zone, State.enterMode_frame, State.enterMode_forces, State.listenTimerFor_isSome,
    State.purgeTimerFor_isSome, decide_eq_true_eq]
  exact ⟨⟨contain, list, decl, by simp [evaluation, hold], fun h => absurd h hold⟩, ⟨trivial, trivial, confirm, cause⟩,
    fun _ => forces⟩

/-! ### Declarations -/

/-- R57 to R62: the monitor's own part in a change of declaration keeps every law but those of the mode. -/
theorem State.KeepsMost.setMonitor (s : State) (x : Monitor) : s.KeepsMost { s with monitor := x } :=
  .of_blocks rfl rfl id id id

theorem State.KeepsMost.queueUrgent (s : State) (u : Urgent) : s.KeepsMost (s.queueUrgent u) :=
  (State.FanStep.setTx s _).keeps.toKeepsMost

theorem State.KeepsMost.declare (s : State) (c : FireCause) : s.KeepsMost (s.declare c) := by
  have told : ∀ t : State, t.KeepsMost (if s.monitor.decl = .preAlarm then t.notice else t) := fun t => by
    split
    · exact (State.FanStep.notice t).keeps.toKeepsMost
    · exact .refl t
  exact (State.KeepsMost.setMonitor s _).trans
    ((State.KeepsMost.enterMode _ _).trans ((State.KeepsMost.queueUrgent _ _).trans (told _)))

/-- R57, R74: a declaration while evaluation is on. -/
theorem State.Keeps.declare (s : State) (c : FireCause) (on : s.monitor.evaluation = true) : s.Keeps (s.declare c) := by
  refine ⟨.declare s c, fun _ => ?_⟩
  rw [State.modeLaws_iff]
  simp [on]

theorem State.KeepsMost.enterPreAlarm (s : State) : s.KeepsMost s.enterPreAlarm :=
  (State.KeepsMost.setMonitor s _).trans ((State.FanStep.recompute _).trans (.notice _)).keeps.toKeepsMost

theorem State.KeepsMost.clearPreAlarm (s : State) : s.KeepsMost s.clearPreAlarm :=
  (State.KeepsMost.setMonitor s _).trans ((State.FanStep.recompute _).trans (.notice _)).keeps.toKeepsMost

theorem State.enterPreAlarm_monitor (s : State) : s.enterPreAlarm.monitor = { s.monitor with
    decl := .preAlarm, confirm := some (tuAfter s.tu (s.cfg.confirmTime * Config.secondTu)) } := by
  simp [State.enterPreAlarm]

theorem State.clearPreAlarm_monitor (s : State) :
    s.clearPreAlarm.monitor = { s.monitor with decl := .clear, confirm := none } := by simp [State.clearPreAlarm]

/-- R58: PRE_ALARM is entered from CLEAR while evaluation is on. -/
theorem State.Keeps.enterPreAlarm (s : State) (on : s.monitor.evaluation = true) (clear : s.monitor.decl = .clear) :
    s.Keeps s.enterPreAlarm := by
  refine ⟨.enterPreAlarm s, fun h => ?_⟩
  rw [State.modeLaws_iff] at h ⊢
  simp_all [State.enterPreAlarm_monitor]
  tauto

/-- R59: PRE_ALARM ends. -/
theorem State.Keeps.clearPreAlarm (s : State) (pre : s.monitor.decl = .preAlarm) : s.Keeps s.clearPreAlarm := by
  refine ⟨.clearPreAlarm s, fun h => ?_⟩
  rw [State.modeLaws_iff] at h ⊢
  simp_all [State.clearPreAlarm_monitor]
  tauto

/-- R65, R75: an accepted reset, in mode FIRE. -/
theorem State.Keeps.acceptReset (s : State) (src : ResetSource) (fire : s.zone.mode = .fire) :
    s.Keeps (s.acceptReset src) := by
  refine ⟨(State.KeepsMost.setMonitor s _).trans ((State.KeepsMost.enterMode _ _).trans (.queueUrgent _ _)), fun h => ?_⟩
  rw [State.modeLaws_iff] at h
  obtain ⟨⟨-, -, -, on, -⟩, -, -⟩ := h
  have on : s.monitor.evaluation = true := on.mpr (by simp [fire])
  unfold State.acceptReset
  simp only
  refine (State.ModeLaws.enterMode ?_ ?_ ?_ ?_ ?_ ?_ ?_).congr rfl rfl rfl
  case refine_4 => exact on
  case refine_6 | refine_7 => simp
  all_goals
    unfold State.modeAfterReset
    simp only
  · intro hc; simp [hc]
  · intro hm hc
    rw [if_neg (by simpa using hc)] at hm
    split at hm <;> cases hm
  · split <;> (try split) <;> simp
  · split <;> (try split) <;> simp

/-! ### Leaving HOLD -/

theorem State.KeepsMost.judgeAtStart (s : State) : s.KeepsMost s.judgeAtStart := by
  unfold State.judgeAtStart
  split
  · exact .declare s _
  · split
    · exact .enterPreAlarm s
    · exact .refl s

/-- R56, R72: leaving HOLD turns evaluation on, and the points judged as they stand leave mode, declaration and timers in
agreement. -/
theorem State.Keeps.leaveHold (s : State) (hold : s.zone.mode = .hold) : s.Keeps s.leaveHold := by
  refine ⟨(State.KeepsMost.enterMode s _).trans ((State.KeepsMost.setMonitor _ _).trans (.judgeAtStart _)), fun h => ?_⟩
  rw [State.modeLaws_iff] at h
  obtain ⟨⟨contain, -, -, -, clear⟩, ⟨-, -, confirm, cause⟩, -⟩ := h
  have clear : s.monitor.decl = .clear := clear hold
  have list : s.zone.contain = [] := by
    by_contra hc
    simpa [hold] using contain hc
  have judged : ∀ t : State, t.ModeLaws → t.monitor.evaluation = true → t.monitor.decl = .clear →
      t.judgeAtStart.ModeLaws := by
    intro t ht on hc
    unfold State.judgeAtStart
    split
    · exact (State.Keeps.declare t _ on).modes ht
    · split
      · exact (State.Keeps.enterPreAlarm t on hc).modes ht
      · exact ht
  refine judged _ ?_ rfl (by simp [clear])
  rw [State.modeLaws_iff]
  simp_all [Mode.dropsForces]

theorem State.Keeps.tryLeaveHold (s : State) : s.Keeps s.tryLeaveHold := by
  unfold State.tryLeaveHold
  split
  · rename_i h
    exact .leaveHold s (by simp [State.mayLeaveHold] at h; tauto)
  · exact .refl s

/-! ### The contain list -/

theorem mem_insertStation {o x : Station} {l : List Station} : x ∈ insertStation o l ↔ x = o ∨ x ∈ l := by
  induction l with
  | nil => simp [insertStation]
  | cons y ys ih =>
    unfold insertStation
    split
    · simp
    · simp only [List.mem_cons, ih]; tauto

theorem insertStation_ne_nil (o : Station) (l : List Station) : insertStation o l ≠ [] := by
  intro h
  have := mem_insertStation (o := o) (x := o) (l := l)
  simp [h] at this

/-- R77: the list stays in ascending order when a new number is put on it. -/
theorem insertStation_ascending {o : Station} {l : List Station} (h : l.Pairwise (· < ·)) (new : o ∉ l) :
    (insertStation o l).Pairwise (· < ·) := by
  induction l with
  | nil => simp [insertStation]
  | cons x xs ih =>
    obtain ⟨hx, hxs⟩ := List.pairwise_cons.mp h
    simp only [List.mem_cons, not_or] at new
    unfold insertStation
    split
    · rename_i hlt
      refine List.pairwise_cons.mpr ⟨fun b hb => ?_, h⟩
      rcases List.mem_cons.mp hb with rfl | hb
      · exact hlt
      · exact hlt.trans (hx b hb)
    · rename_i hge
      refine List.pairwise_cons.mpr ⟨fun b hb => ?_, ih hxs new.2⟩
      rcases mem_insertStation.mp hb with rfl | hb
      · exact lt_of_le_of_ne (not_lt.mp hge) (Ne.symm new.1)
      · exact hx b hb

/-- R77, R78: the contain list replaced by one in ascending order. -/
theorem State.KeepsMost.setContain (s : State) (l : List Station)
    (h : s.zone.contain.Pairwise (· < ·) → l.Pairwise (· < ·)) :
    s.KeepsMost { s with zone := { s.zone with contain := l } } :=
  .of_blocks rfl rfl (fun ho => ⟨ho.1, h ho.2⟩) id id

/-- R77, R79: a neighbour's fire. -/
theorem State.Keeps.neighbourFire (s : State) (o : Station) : s.Keeps (s.neighbourFire o) := by
  unfold State.neighbourFire
  split
  · exact .refl s
  rename_i h
  obtain ⟨hold, new⟩ := not_or.mp h
  have grown := State.KeepsMost.setContain s (insertStation o s.zone.contain) fun ha => insertStation_ascending ha new
  have ne := insertStation_ne_nil o s.zone.contain
  have contain : s.zone.mode ≠ .fire → s.Keeps (State.enterMode
      { s with zone := { s.zone with contain := insertStation o s.zone.contain } } .contain) := by
    refine fun hf => ⟨grown.trans (.enterMode _ _), fun hl => ?_⟩
    rw [State.modeLaws_iff] at hl
    exact .enterMode (by simp) (by simp [ne]) (by simp_all) (by simp_all) (by simp) (by simp_all) (by simp_all)
  have stays : s.zone.contain ≠ [] ∨ s.zone.mode = .fire →
      s.Keeps { s with zone := { s.zone with contain := insertStation o s.zone.contain } } := by
    refine fun hc => ⟨grown, fun hl => ?_⟩
    rw [State.modeLaws_iff] at hl ⊢
    rcases hc with hc | hc <;> simp_all
  simp only
  split
  · split <;> rename_i hm
    · exact contain (by simp [hm])
    · exact contain (by simp [hm])
    · exact contain (by simp [hm])
    · rename_i hc
      refine ⟨grown, fun hl => ?_⟩
      have hf : s.zone.mode = .fire := by
        rw [State.modeLaws_iff] at hl
        cases hs : s.zone.mode <;> simp_all
      exact (stays (.inr hf)).modes hl
  · rename_i hc
    exact stays (.inl hc)

/-- R78, R79: the end of a neighbour's fire. -/
theorem State.Keeps.neighbourGone (s : State) (o : Station) : s.Keeps (s.neighbourGone o) := by
  unfold State.neighbourGone
  split
  · have shrunk := State.KeepsMost.setContain s (s.zone.contain.filter (· ≠ o)) fun ha => ha.filter _
    simp only
    split
    · rename_i h
      refine ⟨shrunk.trans (.enterMode _ _), fun hl => ?_⟩
      rw [State.modeLaws_iff] at hl
      exact .enterMode (fun hc => absurd h.1 hc) (by simp) (by simp_all) (by simp_all) (by simp) (by simp_all)
        (by simp_all)
    · rename_i hm h
      refine ⟨shrunk, fun hl => ?_⟩
      rw [State.modeLaws_iff] at hl ⊢
      obtain ⟨⟨contain, -, rest⟩, others⟩ := hl
      exact ⟨⟨fun _ => contain (List.ne_nil_of_mem hm), fun hc he => h ⟨he, hc⟩, rest⟩, others⟩
  · exact .refl s

end Sys2Proof.Machine
end

section
/-! The laws kept by the Peer View, the zone line and the Record Store. -/

namespace Sys2Proof.Machine

/-! ### The Peer View -/

/-- R4, R5: a table in ascending order that admits an entry of an origin it has not stays in ascending order. -/
theorem admitNewcomer_ascending {now : Tu} {n : PeerEntry} {es es' : List PeerEntry}
    (h : es.Pairwise fun a b => a.origin < b.origin) (new : ∀ e ∈ es, e.origin ≠ n.origin)
    (ad : admitNewcomer now n es = some es') : es'.Pairwise fun a b => a.origin < b.origin := by
  unfold admitNewcomer at ad
  split at ad
  · cases ad
    exact placeEntry_ascending h new
  · split at ad
    · cases ad
    · split at ad
      · cases ad
        exact placeEntry_ascending (h.filter _) fun e he => new e (List.mem_filter.mp he).1
      · cases ad

/-- R1: the view's entries replaced by a table in order and within capacity. -/
theorem State.Keeps.setEntries (s : State) (es : List PeerEntry)
    (order : s.view.entries.Pairwise (fun a b => a.origin < b.origin) → es.Pairwise fun a b => a.origin < b.origin)
    (size : s.view.entries.length ≤ Config.viewCapacity → es.length ≤ Config.viewCapacity) :
    s.Keeps (s.setEntries es) :=
  ⟨.of_blocks rfl rfl (fun h => ⟨order h.1, h.2⟩) (fun h => ⟨size h.1, h.2⟩) id, id⟩

theorem State.Keeps.requestPass (s : State) : s.Keeps s.requestPass := (State.FanStep.setShare s _).keeps

theorem State.Keeps.updateEntry (s : State) (old n : PeerEntry) : s.Keeps (s.updateEntry old n) := by
  have put := State.Keeps.setEntries s (replaceEntry n s.view.entries) replaceEntry_ascending
    fun h => by simpa [replaceEntry] using h
  unfold State.updateEntry
  simp only
  split
  · exact put.trans (.requestPass _)
  · exact put

theorem State.Keeps.statusEvent (s : State) (n : PeerEntry) : s.Keeps (s.statusEvent n) := by
  unfold State.statusEvent
  split
  · split
    · exact .neighbourFire s _
    · exact .neighbourGone s _
  · exact .refl s

theorem State.Keeps.alarmEvent (s : State) (n : PeerEntry) : s.Keeps (s.alarmEvent n) := by
  unfold State.alarmEvent
  split
  · exact .neighbourFire s _
  · exact .refl s

/-- R4, R5: a newcomer admitted, and a pass requested. -/
theorem State.Keeps.takeNewcomer (s : State) (n : PeerEntry) (es : List PeerEntry)
    (none : lookupEntry n.origin s.view.entries = none) (ad : admitNewcomer s.tu n s.view.entries = some es) :
    s.Keeps (s.setEntries es).requestPass :=
  (State.Keeps.setEntries s es (fun h => admitNewcomer_ascending h (lookupEntry_none h none) ad)
    fun h => admitNewcomer_length h ad).trans (.requestPass _)

theorem State.Keeps.refuseNewcomer (s : State) : s.Keeps s.refuseNewcomer :=
  ⟨.of_blocks rfl rfl id (fun ⟨size, a, b, _, rest⟩ => ⟨size, a, b, bump_le _, rest⟩) id, id⟩

theorem State.Keeps.countError (s : State) : s.Keeps s.countError :=
  ⟨.of_blocks rfl rfl id (fun ⟨size, a, b, c, _, rest⟩ => ⟨size, a, b, c, bump_le _, rest⟩) id, id⟩

theorem State.Keeps.takeStatus (s : State) (e : FifoEntry) (cls : Byte) (demand : BitVec 16) (flags : PeerFlags)
    (period : Byte) : s.Keeps (s.takeStatus e cls demand flags period) := by
  unfold State.takeStatus
  split
  · split
    · split
      · exact .refl s
      · exact (State.Keeps.updateEntry s _ _).trans (.statusEvent _ _)
    · rename_i hl
      simp only
      split
      · rename_i ad
        exact (State.Keeps.takeNewcomer s _ _ hl ad).trans (.statusEvent _ _)
      · exact .refuseNewcomer s
  · exact .countError s

theorem State.Keeps.takeAlarm (s : State) (e : FifoEntry) (demand : BitVec 16) : s.Keeps (s.takeAlarm e demand) := by
  unfold State.takeAlarm
  split
  · split
    · split
      · exact .refl s
      · exact (State.Keeps.updateEntry s _ _).trans (.alarmEvent _ _)
    · rename_i hl
      simp only
      split
      · rename_i ad
        exact (State.Keeps.takeNewcomer s _ _ hl ad).trans (.alarmEvent _ _)
      · exact .refuseNewcomer s
  · exact .countError s

theorem State.Keeps.takeReset (s : State) (e : FifoEntry) : s.Keeps (s.takeReset e) := by
  unfold State.takeReset
  split
  · split
    · exact .refl s
    · exact (State.Keeps.updateEntry s _ _).trans (.neighbourGone _ _)
  · exact .neighbourGone s _

/-- The Frame Receiver replaced, its FIFOs and counters within their bounds. -/
theorem State.Keeps.setRx (s : State) (x : Receiver)
    (a : s.rx.fifoA.length ≤ Config.fifoACapacity → x.fifoA.length ≤ Config.fifoACapacity)
    (b : s.rx.fifoB.length ≤ Config.fifoBCapacity → x.fifoB.length ≤ Config.fifoBCapacity)
    (errors : s.rx.errors ≤ Config.counterMax → x.errors ≤ Config.counterMax)
    (lost : s.rx.lost ≤ Config.counterMax → x.lost ≤ Config.counterMax) : s.Keeps { s with rx := x } :=
  ⟨.of_blocks rfl rfl id (fun ⟨h1, h2, h3, h4, h5, h6, h7⟩ => ⟨h1, a h2, b h3, h4, errors h5, lost h6, h7⟩) id, id⟩

theorem State.Keeps.popFrame (s : State) : s.Keeps s.popFrame := by
  unfold State.popFrame
  split
  · rename_i hs
    exact .setRx s _ (fun h => by simp [hs] at h ⊢; omega) id id id
  · exact .setRx s _ id (fun h => by simp; omega) id id

theorem sweepEntry_origin {now : Tu} {e e' : PeerEntry} (h : sweepEntry now e = some e') : e'.origin = e.origin := by
  unfold sweepEntry at h
  (repeat' split at h) <;> cases h <;> rfl

theorem State.Keeps.sweepNow (s : State) : s.Keeps s.sweepNow := by
  unfold State.sweepNow
  simp only
  split
  · exact .refl s
  · refine (State.Keeps.setEntries s _ (fun h => ?_) fun h => ?_).trans (.requestPass _)
    · refine h.filterMap _ fun a a' haa b hb b' hb' => ?_
      rwa [sweepEntry_origin hb, sweepEntry_origin hb']
    · exact (List.length_filterMap_le _ _).trans h

/-- R20, R33: marks of the view. -/
theorem State.Keeps.setView (s : State) (v : View)
    (order : s.view.entries.Pairwise (fun a b => a.origin < b.origin) → v.entries.Pairwise fun a b => a.origin < b.origin)
    (size : s.view.entries.length ≤ Config.viewCapacity → v.entries.length ≤ Config.viewCapacity)
    (refused : v.refused = s.view.refused) : s.Keeps { s with view := v } :=
  ⟨.of_blocks rfl rfl (fun h => ⟨order h.1, h.2⟩)
    (fun ⟨h1, h2, h3, h4, rest⟩ => ⟨size h1, h2, h3, by rw [refused]; exact h4, rest⟩) id, id⟩

theorem State.Keeps.emptyView (s : State) : s.Keeps s.emptyView := by
  have put : s.Keeps { s with view := { s.view with entries := [], pendingEmpty := false } } :=
    .setView s _ (fun _ => .nil) (fun _ => by simp) rfl
  unfold State.emptyView
  simp only
  split
  · exact put
  · exact put.trans (.requestPass _)

/-! ### The zone line -/

/-- R131: the Line Interface replaced, its failure count within its limit. -/
theorem State.Keeps.setLine (s : State) (x : Line)
    (failures : s.line.failures ≤ Config.failureLimit → x.failures ≤ Config.failureLimit) :
    s.Keeps { s with line := x } :=
  ⟨.of_blocks rfl rfl id (fun ⟨h1, h2, h3, h4, h5, h6, h7⟩ => ⟨h1, h2, h3, h4, h5, h6, failures h7⟩) id, id⟩

/-- The Line Interface, the Frame Receiver but for its FIFOs and counters, and the Transmit Unit. -/
theorem State.Keeps.setLink (s : State) (l : Line) (x : Receiver) (tx : Transmit)
    (failures : s.line.failures ≤ Config.failureLimit → l.failures ≤ Config.failureLimit)
    (a : x.fifoA = s.rx.fifoA) (b : x.fifoB = s.rx.fifoB)
    (errors : s.rx.errors ≤ Config.counterMax → x.errors ≤ Config.counterMax) (lost : x.lost = s.rx.lost) :
    s.Keeps { s with line := l, rx := x, tx := tx } :=
  ⟨.of_blocks rfl rfl id (fun ⟨h1, h2, h3, h4, h5, h6, h7⟩ =>
    ⟨h1, by rw [a]; exact h2, by rw [b]; exact h3, h4, errors h5, by rw [lost]; exact h6, failures h7⟩) id, id⟩

theorem State.Keeps.setTx (s : State) (tx : Transmit) : s.Keeps { s with tx := tx } := (State.FanStep.setTx s tx).keeps

theorem State.FanStep.claimGoesLocal (s : State) (f : Fan) (was : Bool) : s.FanStep (s.claimGoesLocal f was) := by
  unfold State.claimGoesLocal
  split
  · exact .decideClaim s f _
  · exact .refl s

theorem State.FanStep.claimsGoLocal (s : State) : s.FanStep s.claimsGoLocal :=
  (State.FanStep.setTx s _).trans ((State.FanStep.claimGoesLocal _ _ _).trans (.claimGoesLocal _ _ _))

theorem State.FanStep.setIsolated (s : State) : s.FanStep s.setIsolated := by
  have mark : s.FanStep { s with line := { s.line with isolated := true } } :=
    .of_fans ⟨rfl, rfl, rfl, rfl, rfl, rfl, rfl, rfl⟩ rfl
  unfold State.setIsolated
  split
  · exact .refl s
  · exact mark.trans ((State.FanStep.setShare _ _).trans (.claimsGoLocal _))

theorem State.FanStep.urgentReturns (s : State) (u : Urgent) : s.FanStep (s.urgentReturns u) := by
  unfold State.urgentReturns
  split
  · exact .refl s
  · exact .setTx s _

theorem State.FanStep.abandonedEnds (s : State) (f : Fan) : s.FanStep (s.abandonedEnds f) := by
  unfold State.abandonedEnds
  split
  · split
    · exact .handClaim s f
    · exact .setClaim s f _ _
  · exact .refl s

theorem State.FanStep.claimLeavesLine (s : State) (f : Fan) : s.FanStep (s.claimLeavesLine f) :=
  (State.FanStep.setClaim s f _ _).trans (.setTx _ _)

theorem State.FanStep.claimWaitsAgain (s : State) (f : Fan) : s.FanStep (s.claimWaitsAgain f) :=
  (State.FanStep.setClaim s f _ _).trans (.setTx _ _)

theorem State.FanStep.dropSlot (s : State) : s.FanStep s.dropSlot := .setTx s _

theorem State.FanStep.claimLost (s : State) (f : Fan) : s.FanStep (s.claimLost f) := by
  unfold State.claimLost
  split
  · exact .claimWaitsAgain s f
  · exact (State.FanStep.dropSlot s).trans (.abandonedEnds _ f)

theorem State.FanStep.claimFails (s : State) (f : Fan) : s.FanStep (s.claimFails f) := by
  unfold State.claimFails
  split
  · split
    · exact (State.FanStep.setTx s _).trans (.claimWaitsAgain _ f)
    · exact (State.FanStep.dropSlot s).trans (.setClaim _ f _ _)
  · exact (State.FanStep.dropSlot s).trans (.abandonedEnds _ f)

theorem State.FanStep.statusFails (s : State) : s.FanStep s.statusFails := by
  unfold State.statusFails
  split <;> exact .setTx s _

theorem State.FanStep.contentFails (s : State) (a : Attempt) (i : Bool) : s.FanStep (s.contentFails a i) := by
  unfold State.contentFails
  split
  · exact .urgentReturns s _
  · split
    · exact .claimLeavesLine s _
    · exact .claimFails s _
  · split
    · exact .refl s
    · exact .statusFails s

theorem State.FanStep.isolationAfterError (s : State) (x : Bool) : s.FanStep (s.isolationAfterError x) := by
  unfold State.isolationAfterError
  split
  · exact .claimsGoLocal s
  · split
    · exact .setIsolated s
    · exact .refl s

/-- R120, R137: the end of an attempt before its frame. -/
theorem State.Keeps.releaseLine (s : State) (m : AttemptMark) : s.Keeps (s.releaseLine m) :=
  .setLink s _ _ _ (fun h => h) rfl rfl (fun h => h) rfl

/-- R125: the end of an attempt that lost contention. -/
theorem State.Keeps.loseContention (s : State) (a : Attempt) : s.Keeps (s.loseContention a) := by
  have start : s.Keeps ((s.releaseLine .lost).offerAgain a) :=
    (State.Keeps.releaseLine s _).trans (.setTx _ _)
  unfold State.loseContention
  simp only
  refine start.trans (State.FanStep.keeps ?_)
  split
  · exact .urgentReturns _ _
  · split
    · exact (State.FanStep.claimLeavesLine _ _).trans (.claimsGoLocal _)
    · exact .claimLost _ _
  · exact .refl _

/-- R126: the end of an attempt by a bit error. -/
theorem State.Keeps.failAttempt (s : State) (a : Attempt) : s.Keeps (s.failAttempt a) := by
  have start : s.Keeps (s.releaseLine .failed).countFailure :=
    (State.Keeps.releaseLine s _).trans (.setLine _ _ fun _ => Nat.min_le_left _ _)
  exact start.trans ((State.FanStep.contentFails _ _ _).trans (.isolationAfterError _ _)).keeps

theorem State.FanStep.claimEchoes (s : State) (f : Fan) (fire : Bool) : s.FanStep (s.claimEchoes f fire) := by
  unfold State.claimEchoes
  simp only
  split
  · exact (State.FanStep.dropSlot s).trans (.decideClaim _ f _)
  · exact (State.FanStep.dropSlot s).trans ((State.FanStep.takeEntry _ _).trans (.abandonedEnds _ f))

theorem State.FanStep.contentSent (s : State) (c : Content) : s.FanStep (s.contentSent c) := by
  cases c with
  | urgent u => exact .refl s
  | claim f fire => exact .claimEchoes s f fire
  | status => exact .setTx s _

theorem State.FanStep.endIsolation (s : State) : s.FanStep s.endIsolation := by
  have mark : s.FanStep { s with
      line := { s.line with isolated := false }
      tx := { s.tx with isolatedMark := true, probeOffer := false } } :=
    .of_fans ⟨rfl, rfl, rfl, rfl, rfl, rfl, rfl, rfl⟩ rfl
  exact mark.trans ((State.FanStep.setShare _ _).trans (.notice _))

theorem State.Keeps.completeAttempt (s : State) (a : Attempt) : s.Keeps (s.completeAttempt a) := by
  have start := State.Keeps.setLink s { s.line with state := .receiving, failures := 0 }
    { s.rx with asm := .tail, buffer := frameChars s.cfg.station a.content } { s.tx with onLine := none }
    (fun _ => Nat.zero_le _) rfl rfl id rfl
  unfold State.completeAttempt
  simp only
  split
  · exact start.trans ((State.FanStep.contentSent _ _).trans (.endIsolation _)).keeps
  · exact start.trans (State.FanStep.contentSent _ _).keeps

theorem State.FanStep.contentStarts (s : State) (c : Content) : s.FanStep (s.contentStarts c) := by
  cases c with
  | urgent u => exact .setTx s _
  | claim f fire => exact (State.FanStep.setClaim s f _ _).trans (.setTx _ _)
  | status => exact .setTx s _

theorem State.Keeps.beginAttempt (s : State) (a : Attempt) : s.Keeps (s.beginAttempt a) := by
  have start := State.Keeps.setLink s { s.line with state := .sending }
    { s.rx with asm := .assembling, buffer := [], mark := .sending } s.tx id rfl rfl id rfl
  exact start.trans ((State.FanStep.contentStarts _ _).trans (.setTx _ _)).keeps

/-! ### The Frame Receiver -/

theorem Receiver.countCondemned_errors (r : Receiver) (h : r.errors ≤ Config.counterMax) :
    r.countCondemned.errors ≤ Config.counterMax := by
  unfold Receiver.countCondemned
  split
  · exact h
  · exact bump_le _

@[simp] theorem Receiver.countCondemned_rest (r : Receiver) :
    r.countCondemned.fifoA = r.fifoA ∧ r.countCondemned.fifoB = r.fifoB ∧ r.countCondemned.lost = r.lost ∧
    r.countCondemned.mark = r.mark ∧ r.countCondemned.duplicate = r.duplicate := by
  unfold Receiver.countCondemned
  split <;> simp

theorem State.Keeps.condemnFrame (s : State) : s.Keeps s.condemnFrame := by
  unfold State.condemnFrame
  split
  · exact .refl s
  · unfold Receiver.condemn
    split
    · exact .setRx s _ (by simp) (by simp) (s.rx.countCondemned_errors) (by simp)
    · exact .setRx s _ id id (fun _ => bump_le _) id
    · exact .refl s
    · exact .refl s

theorem State.Keeps.route (s : State) (e : FifoEntry) : s.Keeps { s with rx := s.rx.route e } := by
  have joinB : s.Keeps { s with rx := s.rx.joinB e } := by
    unfold Receiver.joinB
    split
    · rename_i h
      exact .setRx s _ id (fun _ => by simpa using h) id id
    · exact .setRx s _ id id id fun _ => bump_le _
  unfold Receiver.route
  split
  · exact joinB
  · split
    · rename_i h
      exact .setRx s _ (fun _ => by simpa using h) id id id
    · exact joinB

theorem State.Keeps.heardClaim (s : State) (o : Station) (fan fire : Byte) : s.Keeps (s.heardClaim o fan fire) := by
  unfold State.heardClaim
  split
  · split
    · exact (State.FanStep.takeEntry s _).keeps
    · exact .countError s
  · exact .refl s

theorem State.Keeps.takeHeard (s : State) (h : Heard) : s.Keeps (s.takeHeard h) := by
  unfold State.takeHeard
  split
  · exact .setRx s _ id id id id
  · split
    · exact .heardClaim s _ _ _
    · split
      · exact .route s _
      · exact .refl s

theorem State.Keeps.frameCompletes (s : State) (chars : List Byte) : s.Keeps (s.frameCompletes chars) := by
  unfold State.frameCompletes
  split
  · exact .completeAttempt s _
  · exact .refl s
  · split
    · have heard := State.Keeps.setRx s { s.rx with asm := .tail, buffer := chars } id id id id
      exact heard.trans (.takeHeard _ _)
    · exact .condemnFrame s
    · exact .refl s

theorem Receiver.atIdle_rest (r : Receiver) : r.atIdle.fifoA = r.fifoA ∧ r.atIdle.fifoB = r.fifoB ∧
    r.atIdle.lost = r.lost ∧ (r.errors ≤ Config.counterMax → r.atIdle.errors ≤ Config.counterMax) := by
  unfold Receiver.atIdle
  split <;> simp
  exact r.countCondemned_errors

theorem Receiver.atStartBit_rest (r : Receiver) : r.atStartBit.fifoA = r.fifoA ∧ r.atStartBit.fifoB = r.fifoB ∧
    r.atStartBit.lost = r.lost ∧ (r.errors ≤ Config.counterMax → r.atStartBit.errors ≤ Config.counterMax) := by
  unfold Receiver.atStartBit
  split <;> simp [bump_le]

end Sys2Proof.Machine
end

section
/-! The end of an event (log entries 7, 9, 10): it changes no damper's command, it leaves every damper following its own, and
no request and no claim of the event is left open. -/

namespace Sys2Proof.Machine

/-! ### What a damper's command is read from -/

/-- R82, R83, R109: the blocks that give a transfer damper's effective command. -/
theorem State.effectiveCommand_td_congr {s t : State} (forces : t.forces = s.forces) (zone : t.zone.mode = s.zone.mode)
    (decl : t.monitor.decl = s.monitor.decl) (hits : t.preAlarmHit = s.preAlarmHit) (cfg : t.cfg = s.cfg) (k : Ix4)
    (fitted : (t.damper (.td k)).fitted = (s.damper (.td k)).fitted) :
    t.effectiveCommand (.td k) = s.effectiveCommand (.td k) := by
  simp only [State.effectiveCommand, State.ownerCommand, State.transferOpen, State.facingClosed, fitted, zone, decl, cfg,
    hits, forces]

/-- R92, R109: an extract damper's effective command is its force, and without one the wish of its fan. -/
theorem State.effectiveCommand_ed (s : State) (f : Fan) : s.effectiveCommand (.ed f) =
    if (s.forces.dampers.get (.ed f)).flag then (s.forces.dampers.get (.ed f)).value
    else (s.fan f).state.wantsOpen := rfl

/-- R82, R83, R92, R109: the blocks that give a damper's effective command. -/
theorem State.effectiveCommand_congr {s t : State} (forces : t.forces = s.forces) (zone : t.zone.mode = s.zone.mode)
    (decl : t.monitor.decl = s.monitor.decl) (hits : t.preAlarmHit = s.preAlarmHit) (cfg : t.cfg = s.cfg)
    (wants : ∀ f, (t.fan f).state.wantsOpen = (s.fan f).state.wantsOpen)
    (fitted : ∀ k, (t.damper (.td k)).fitted = (s.damper (.td k)).fitted) (d : DamperId) :
    t.effectiveCommand d = s.effectiveCommand d := by
  cases d with
  | ed f => simp only [State.effectiveCommand_ed, forces, wants]
  | td k => exact State.effectiveCommand_td_congr forces zone decl hits cfg k (fitted k)

/-- R18: the pre-alarm hit set is read from the view's entries. -/
theorem State.preAlarmHit_congr {s t : State} (view : t.view.entries = s.view.entries) : t.preAlarmHit = s.preAlarmHit := by
  funext h; simp only [State.preAlarmHit, view]

/-- R92, R101: to start, to place or to abort a claim changes no damper's command. -/
theorem State.placeClaim_command (s : State) (f : Fan) (d : DamperId) :
    (s.placeClaim f).effectiveCommand d = s.effectiveCommand d := by
  refine State.effectiveCommand_congr (by simp) (by simp) (by simp) (State.preAlarmHit_congr (by simp))
    (State.cfg_of_store (by simp)) (fun g => ?_) (fun k => by rw [State.damper_congr (s := s) (by simp)]) d
  unfold State.placeClaim
  simp only
  split
  · split
    · exact State.giveClaim_wantsOpen _ f g
    · rfl
  · rfl

/-! ### The dampers' answers -/

/-- R111, R112: a damper's record after it has answered its command. -/
def State.driven (s : State) (d : DamperId) : DamperUnit :=
  if (s.damper d).fitted = true ∧ (s.damper d).state ≠ .stuck ∧
      ¬ (s.effectiveCommand d = true ↔ (s.damper d).state = .opened ∨ (s.damper d).state = .opening) then
    (s.damper d).travelling (s.effectiveCommand d) (s.pins.limits.get d) s.travelExpiry
  else s.damper d

/-- R111: a damper answers by taking the record of its answer, its fan being told; one that follows its command is left. -/
theorem State.driveDamper_eq (s : State) (d : DamperId) :
    s.driveDamper d = if s.driven d = s.damper d then s else s.moveDamper d (s.driven d) := by
  by_cases hf : (s.damper d).fitted = true ∧ (s.damper d).state ≠ .stuck ∧
      ¬ (s.effectiveCommand d = true ↔ (s.damper d).state = .opened ∨ (s.damper d).state = .opening)
  · have moved : s.driven d ≠ s.damper d := by
      rw [State.driven, if_pos hf]
      obtain ⟨-, -, h⟩ := hf
      intro he
      apply h
      rw [← he]
      unfold DamperUnit.travelling
      cases s.effectiveCommand d <;> simp <;> (try split) <;> simp
    rw [if_neg moved, State.driven, if_pos hf]
    obtain ⟨hf, hs, h⟩ := hf
    unfold State.driveDamper
    rw [if_pos hf]
    cases hst : (s.damper d).state <;> cases hc : s.effectiveCommand d <;> simp_all
  · rw [State.driven, if_neg hf, if_pos rfl]
    exact s.driveDamper_of_follow d fun h1 h2 => by tauto

theorem DamperUnit.travelling_fitted (u : DamperUnit) (o : Bool) (l : Limits) (e : Tu) :
    (u.travelling o l e).fitted = u.fitted := by
  unfold DamperUnit.travelling
  (repeat' split) <;> rfl

@[simp] theorem State.driven_fitted (s : State) (d : DamperId) : (s.driven d).fitted = (s.damper d).fitted := by
  unfold State.driven
  split
  · rw [DamperUnit.travelling_fitted]
  · rfl

/-- R111: a damper that has answered follows its command. -/
theorem State.driven_follows (s : State) (d : DamperId) (hf : (s.driven d).fitted = true) (hs : (s.driven d).state ≠ .stuck) :
    s.effectiveCommand d = true ↔ (s.driven d).state = .opened ∨ (s.driven d).state = .opening := by
  unfold State.driven at *
  split at hf
  · rw [if_pos ‹_›] at *
    unfold DamperUnit.travelling
    cases s.effectiveCommand d <;> simp <;> (try split) <;> simp
  · rename_i h
    rw [if_neg h] at *
    by_contra hc
    exact h ⟨hf, hs, hc⟩

/-- R115: a change of a damper writes its record, and no other. -/
theorem State.moveDamper_damper (s : State) (d d' : DamperId) (u : DamperUnit) :
    (s.moveDamper d u).damper d' = if d' = d then u else s.damper d' := by
  rw [State.moveDamper, State.damper_congr (s := s.setDamper d u) (by simp), State.setDamper_damper]

@[simp] theorem State.driveDamper_damper (s : State) (d d' : DamperId) :
    (s.driveDamper d).damper d' = if d' = d then s.driven d else s.damper d' := by
  rw [State.driveDamper_eq]
  split
  · by_cases h : d' = d
    · subst h; simp [*]
    · simp [h]
  · exact s.moveDamper_damper d d' _

/-- R115: a damper of no fan tells none. -/
theorem State.moveDamper_td (s : State) (k : Ix4) (u : DamperUnit) : s.moveDamper (.td k) u = s.setDamper (.td k) u := rfl

/-- R115: a change of an extract damper other than to STUCK reaches its own fan alone. -/
theorem State.handDamper_fan_of_ne (s : State) {f g : Fan} (h : g ≠ f) (before after : DamperState) (hs : after ≠ .stuck) :
    (s.handDamper (.ed f) before after).fan g = s.fan g := by
  simp only [State.handDamper, if_neg hs]
  (repeat' split) <;> simp [h, State.fanReachesOpen_fan_of_ne, State.fanLeavesOpen_fan_of_ne]

/-- R115: a fan that hears of its damper's OPEN goes on wanting it open. -/
theorem State.fanReachesOpen_wants (s : State) (f g : Fan) :
    ((s.fanReachesOpen f).fan g).state.wantsOpen = (s.fan g).state.wantsOpen := by
  unfold State.fanReachesOpen
  split
  · rename_i h
    by_cases hg : g = f
    · subst hg; simp [h, FanState.wantsOpen]
    · simp [hg]
  · rfl

/-- R115: a fan that does not want its damper open is not moved as it leaves OPEN. -/
theorem State.fanLeavesOpen_of_unwanted (s : State) (f : Fan) (h : (s.fan f).state.wantsOpen = false) :
    s.fanLeavesOpen f = s := by
  unfold State.fanLeavesOpen
  cases hs : (s.fan f).state <;> simp_all [FanState.wantsOpen]

/-- R112: where a damper goes that answers a command. -/
theorem DamperUnit.travelling_state (u : DamperUnit) (o : Bool) (l : Limits) (e : Tu) :
    (u.travelling o l e).state =
      if o then (if l.openLimit && !l.closedLimit then .opened else .opening)
      else if l.closedLimit && !l.openLimit then .closed else .closing := by
  unfold DamperUnit.travelling
  cases o <;> simp only [if_true, Bool.false_eq_true, if_false] <;> split <;> rfl

/-- R92, R95, R109: a damper that no force holds answers the wish of its fan, which the answer does not change: a fan that
wants its damper open waits on behind it, and one that does not is not there to leave. -/
theorem State.driveDamper_wants (s : State) (f g : Fan) (own : g = f → (s.forces.dampers.get (.ed f)).flag = false) :
    ((s.driveDamper (.ed f)).fan g).state.wantsOpen = (s.fan g).state.wantsOpen := by
  rw [State.driveDamper_eq]
  split
  · rfl
  rename_i moved
  unfold State.driven at moved ⊢
  split at moved
  case isFalse => exact absurd rfl moved
  rename_i h
  rw [if_pos h]
  obtain ⟨-, stuck, h⟩ := h
  by_cases hg : g = f
  · subst hg
    have wish : s.effectiveCommand (.ed g) = (s.fan g).state.wantsOpen := by
      simp [State.effectiveCommand, own, State.ownerCommand]
    simp only [State.moveDamper, State.handDamper, DamperUnit.travelling_state]
    cases hw : (s.fan g).state.wantsOpen with
    | true =>
      rw [wish, hw] at h ⊢
      (repeat' split) <;> simp_all [State.fanReachesOpen_wants]
    | false =>
      rw [wish, hw] at h ⊢
      have stay : ∀ u, ((s.setDamper (.ed g) u).fanLeavesOpen g) = s.setDamper (.ed g) u := fun u =>
        State.fanLeavesOpen_of_unwanted _ _ hw
      (repeat' split) <;> simp_all
  · rw [State.moveDamper, State.handDamper_fan_of_ne _ hg _ _ (DamperUnit.travelling_not_stuck _ _ _ _)]
    rfl

/-- R109: no damper's answer changes a command. -/
@[simp] theorem State.driveDamper_command (s : State) (d d' : DamperId) :
    (s.driveDamper d).effectiveCommand d' = s.effectiveCommand d' := by
  have fitted : ((s.driveDamper d).damper d').fitted = (s.damper d').fitted := by
    rw [State.driveDamper_damper]
    split <;> simp [*]
  cases d' with
  | td k =>
    exact State.effectiveCommand_td_congr (by simp) (by simp) (by simp) (State.preAlarmHit_congr (by simp))
      (State.cfg_of_store (by simp)) k fitted
  | ed g =>
    have forces : (s.driveDamper d).forces = s.forces := by simp
    rw [State.effectiveCommand_ed, State.effectiveCommand_ed, forces]
    cases hforce : (s.forces.dampers.get (.ed g)).flag with
    | true => rfl
    | false =>
      simp only [Bool.false_eq_true, if_false]
      cases d with
      | ed f => exact s.driveDamper_wants f g fun hg => hg ▸ hforce
      | td k =>
        rw [State.driveDamper_eq]
        split <;> rfl

/-- R109: what a damper answers is settled by the blocks that give its command, its limits, the time and its record. -/
theorem State.driven_congr {s t : State} {d : DamperId} (cmd : t.effectiveCommand d = s.effectiveCommand d)
    (own : t.damper d = s.damper d) (pins : t.pins = s.pins) (tu : t.tu = s.tu) (cfg : t.cfg = s.cfg) :
    t.driven d = s.driven d := by
  simp only [State.driven, State.travelExpiry, cmd, own, pins, tu, cfg]

/-! ### The whole end -/

@[simp] theorem State.placeClaim_damper (s : State) (f : Fan) (d : DamperId) : (s.placeClaim f).damper d = s.damper d :=
  State.damper_congr (by simp) d

@[simp] theorem State.placeClaims_damper (s : State) (d : DamperId) : s.placeClaims.damper d = s.damper d :=
  State.damper_congr (by simp) d

@[simp] theorem State.placeClaims_command (s : State) (d : DamperId) :
    s.placeClaims.effectiveCommand d = s.effectiveCommand d := by
  rw [State.placeClaims, State.placeClaim_command, State.placeClaim_command]

@[simp] theorem State.serve_damper (s : State) (d : DamperId) : s.serve.damper d = s.damper d :=
  State.damper_congr (by simp) d

theorem State.serve_fan (s : State) (f : Fan) : s.serve.fan f = s.fan f := State.fan_congr (by simp) f

@[simp] theorem State.serve_command (s : State) (d : DamperId) : s.serve.effectiveCommand d = s.effectiveCommand d :=
  State.effectiveCommand_congr (by simp) (by simp) (by simp) (State.preAlarmHit_congr (by simp))
    (State.cfg_of_store (by simp)) (fun f => by rw [State.serve_fan]) (fun k => by simp) d

/-- The end of an event changes no damper's command. -/
@[simp] theorem State.finish_command (s : State) (d : DamperId) : s.finish.effectiveCommand d = s.effectiveCommand d := by
  simp [State.finish, State.driveDampers, State.driveExtracts, Ix4.all, State.placeClaim_command]

/-- R111: as the event ends each damper stands where its answer to its command leaves it. -/
@[simp] theorem State.finish_damper (s : State) (d : DamperId) : s.finish.damper d = s.driven d := by
  have last : ∀ t : State, (∀ d', t.effectiveCommand d' = s.effectiveCommand d') → t.damper d = s.damper d →
      t.pins = s.pins → t.tu = s.tu → t.store = s.store → t.driven d = s.driven d :=
    fun t cmd own pins tu store => State.driven_congr (cmd d) own pins tu (State.cfg_of_store store)
  rcases d with (_ | _) | (_ | _ | _ | _) <;>
    (simp only [State.finish, State.driveDampers, State.driveExtracts, Ix4.all, List.foldl_cons, List.foldl_nil,
       State.serve_damper, State.placeClaims_damper, State.driveDamper_damper, reduceCtorEq, if_false, if_true,
       DamperId.td.injEq, DamperId.ed.injEq]
     exact last _ (by simp [State.placeClaim_command]) (by simp) (by simp) (by simp) (by simp))

/-- R111: as an event ends every damper follows its command. -/
theorem State.finish_follow (s : State) : s.finish.DampersFollow := by
  intro d hf hs
  rw [State.finish_command, State.finish_damper] at *
  exact s.driven_follows d hf hs

theorem State.finish_served (s : State) : s.finish.RequestsServed := ⟨by simp [State.finish], s.finish_begun⟩

end Sys2Proof.Machine
end

section
/-! The operations that give no damper a new command: what the claims, the line and the Start List do between two answers of
the dampers. -/

namespace Sys2Proof.Machine

/-- What an operation leaves that gives no damper a new command and starts no claim. -/
structure State.Calm (s t : State) : Prop where
  wishes : ∀ f, (t.fan f).state.wantsOpen = (s.fan f).state.wantsOpen
  begun : t.fans.begun = s.fans.begun
  dampers : t.dampers = s.dampers
  forces : t.forces = s.forces
  zone : t.zone = s.zone
  monitor : t.monitor = s.monitor
  view : t.view = s.view
  store : t.store = s.store

theorem State.Calm.refl (s : State) : s.Calm s := ⟨fun _ => rfl, rfl, rfl, rfl, rfl, rfl, rfl, rfl⟩

theorem State.Calm.trans {s t u : State} (h : s.Calm t) (k : t.Calm u) : s.Calm u :=
  ⟨fun f => (k.wishes f).trans (h.wishes f), k.begun.trans h.begun, k.dampers.trans h.dampers, k.forces.trans h.forces,
    k.zone.trans h.zone, k.monitor.trans h.monitor, k.view.trans h.view, k.store.trans h.store⟩

theorem State.Calm.of_step {s t : State} (h : s.FanStep t)
    (wishes : ∀ f, (t.fan f).state.wantsOpen = (s.fan f).state.wantsOpen) (begun : t.fans.begun = s.fans.begun) : s.Calm t :=
  ⟨wishes, begun, h.blocks.dampers, h.blocks.forces, h.blocks.zone, h.blocks.monitor, h.blocks.view, h.blocks.store⟩

/-- An operation on the fans that leaves their records. -/
theorem State.Calm.of_units {s t : State} (h : s.FanStep t) (units : t.fans.units = s.fans.units)
    (begun : t.fans.begun = s.fans.begun) : s.Calm t :=
  .of_step h (fun f => by rw [State.fan, units]; rfl) begun

/-- No command changes, and each damper follows its own as before. -/
theorem State.Calm.command {s t : State} (h : s.Calm t) (d : DamperId) : t.effectiveCommand d = s.effectiveCommand d :=
  State.effectiveCommand_congr h.forces (by rw [h.zone]) (by rw [h.monitor]) (State.preAlarmHit_congr (by rw [h.view]))
    (State.cfg_of_store h.store) h.wishes (fun k => by rw [State.damper_congr h.dampers]) d

theorem State.Calm.follow {s t : State} (h : s.Calm t) (hf : s.DampersFollow) : t.DampersFollow := by
  intro d
  rw [h.command, State.damper_congr h.dampers]
  exact hf d

/-! ### Claims and the Start List -/

theorem State.Calm.setClaim (s : State) (f : Fan) (c : ClaimState) (b : Option Tu) : s.Calm (s.setClaim f c b) :=
  .of_step (.setClaim s f c b) (fun g => by rw [State.setClaim_fan]; split <;> simp [*]) rfl

theorem State.Calm.moveFan {s : State} {f : Fan} {st : FanState} (h : s.FanStep (s.moveFan f st))
    (w : st.wantsOpen = (s.fan f).state.wantsOpen) : s.Calm (s.moveFan f st) :=
  .of_step h (fun g => by rw [State.moveFan_fan]; split <;> simp [*]) (by simp)

theorem State.Calm.handRemoval (s : State) (e : ClaimEntry) : s.Calm (s.handRemoval e) :=
  .of_step (.handRemoval s e) (s.handRemoval_wantsOpen e) (by unfold State.handRemoval; split <;> simp)

theorem State.Calm.dropSame (s : State) (e : ClaimEntry) : s.Calm (s.dropSame e) := by
  unfold State.dropSame
  split
  · exact (State.Calm.of_units (.setStarts s _ fun h => (List.length_filter_le _ _).trans h) rfl rfl).trans
      (.handRemoval _ _)
  · exact .refl s

theorem State.Calm.setStarts (s : State) (l : List ClaimEntry) : s.Calm { s with fans := { s.fans with starts := l } } :=
  ⟨fun _ => rfl, rfl, rfl, rfl, rfl, rfl, rfl, rfl⟩

theorem State.Calm.appendClaim (s : State) (e : ClaimEntry) : s.Calm (s.appendClaim e) := by
  unfold State.appendClaim
  split
  · exact .setStarts s _
  · split
    · exact .setStarts s _
    · exact (State.Calm.setStarts s _).trans (.handRemoval _ _)

theorem State.Calm.takeEntry (s : State) (e : ClaimEntry) : s.Calm (s.takeEntry e) := by
  unfold State.takeEntry
  split
  · exact (State.Calm.dropSame s e).trans (.appendClaim _ e)
  · exact .dropSame s e

theorem State.Calm.startFan (s : State) (f : Fan) : s.Calm (s.startFan f) := by
  unfold State.startFan
  split
  · rename_i h
    refine (State.Calm.setClaim s f _ _).trans (.moveFan (.moveFan fun _ => .inl ?_) ?_) <;>
      simp [h, FanState.needsOpen, FanState.wantsOpen]
  · exact .setClaim s f _ _

theorem State.Calm.decideClaim (s : State) (f : Fan) (e : ClaimEntry) : s.Calm (s.decideClaim f e) := by
  unfold State.decideClaim
  split
  · exact (State.Calm.takeEntry s e).trans (.startFan _ f)
  · exact (State.Calm.takeEntry s e).trans (.setClaim _ f _ _)

theorem State.Calm.setTx (s : State) (tx : Transmit) : s.Calm { s with tx := tx } :=
  ⟨fun _ => rfl, rfl, rfl, rfl, rfl, rfl, rfl, rfl⟩

theorem State.Calm.setShare (s : State) (x : Share) : s.Calm { s with share := x } :=
  ⟨fun _ => rfl, rfl, rfl, rfl, rfl, rfl, rfl, rfl⟩

theorem State.Calm.setLine (s : State) (x : Line) : s.Calm { s with line := x } :=
  ⟨fun _ => rfl, rfl, rfl, rfl, rfl, rfl, rfl, rfl⟩

theorem State.Calm.setRx (s : State) (x : Receiver) : s.Calm { s with rx := x } :=
  ⟨fun _ => rfl, rfl, rfl, rfl, rfl, rfl, rfl, rfl⟩

theorem State.Calm.setLink (s : State) (l : Line) (x : Receiver) (tx : Transmit) :
    s.Calm { s with line := l, rx := x, tx := tx } :=
  ⟨fun _ => rfl, rfl, rfl, rfl, rfl, rfl, rfl, rfl⟩

theorem State.Calm.handClaim (s : State) (f : Fan) : s.Calm (s.handClaim f) := by
  unfold State.handClaim State.giveClaim
  split
  · exact (State.Calm.setClaim s f _ _).trans (.decideClaim _ f _)
  · exact (State.Calm.setClaim s f _ _).trans (.setTx _ _)

/-! ### The ends of an attempt -/

theorem State.Calm.claimGoesLocal (s : State) (f : Fan) (was : Bool) : s.Calm (s.claimGoesLocal f was) := by
  unfold State.claimGoesLocal
  split
  · exact .decideClaim s f _
  · exact .refl s

theorem State.Calm.claimsGoLocal (s : State) : s.Calm s.claimsGoLocal :=
  (State.Calm.setTx s _).trans ((State.Calm.claimGoesLocal _ _ _).trans (.claimGoesLocal _ _ _))

theorem State.Calm.setIsolated (s : State) : s.Calm s.setIsolated := by
  unfold State.setIsolated
  split
  · exact .refl s
  · exact (State.Calm.setLine s _).trans ((State.Calm.setShare _ _).trans (.claimsGoLocal _))

theorem State.Calm.urgentReturns (s : State) (u : Urgent) : s.Calm (s.urgentReturns u) := by
  unfold State.urgentReturns
  split
  · exact .refl s
  · exact .setTx s _

theorem State.Calm.abandonedEnds (s : State) (f : Fan) : s.Calm (s.abandonedEnds f) := by
  unfold State.abandonedEnds
  split
  · split
    · exact .handClaim s f
    · exact .setClaim s f _ _
  · exact .refl s

theorem State.Calm.claimLeavesLine (s : State) (f : Fan) : s.Calm (s.claimLeavesLine f) :=
  (State.Calm.setClaim s f _ _).trans (.setTx _ _)

theorem State.Calm.claimWaitsAgain (s : State) (f : Fan) : s.Calm (s.claimWaitsAgain f) :=
  (State.Calm.setClaim s f _ _).trans (.setTx _ _)

theorem State.Calm.claimLost (s : State) (f : Fan) : s.Calm (s.claimLost f) := by
  unfold State.claimLost
  split
  · exact .claimWaitsAgain s f
  · exact (State.Calm.setTx s _).trans (.abandonedEnds _ f)

theorem State.Calm.claimFails (s : State) (f : Fan) : s.Calm (s.claimFails f) := by
  unfold State.claimFails
  split
  · split
    · exact (State.Calm.setTx s _).trans (.claimWaitsAgain _ f)
    · exact (State.Calm.setTx s _).trans (.setClaim _ f _ _)
  · exact (State.Calm.setTx s _).trans (.abandonedEnds _ f)

theorem State.Calm.contentFails (s : State) (a : Attempt) (i : Bool) : s.Calm (s.contentFails a i) := by
  unfold State.contentFails
  split
  · exact .urgentReturns s _
  · split
    · exact .claimLeavesLine s _
    · exact .claimFails s _
  · split
    · exact .refl s
    · unfold State.statusFails
      split <;> exact .setTx s _

theorem State.Calm.isolationAfterError (s : State) (x : Bool) : s.Calm (s.isolationAfterError x) := by
  unfold State.isolationAfterError
  split
  · exact .claimsGoLocal s
  · split
    · exact .setIsolated s
    · exact .refl s

theorem State.Calm.loseContention (s : State) (a : Attempt) : s.Calm (s.loseContention a) := by
  have start : s.Calm ((s.releaseLine .lost).offerAgain a) := (State.Calm.setLink s _ _ _).trans (.setTx (s.releaseLine .lost) _)
  unfold State.loseContention
  simp only
  refine start.trans ?_
  split
  · exact .urgentReturns _ _
  · split
    · exact (State.Calm.claimLeavesLine _ _).trans (.claimsGoLocal _)
    · exact .claimLost _ _
  · exact .refl _

theorem State.Calm.failAttempt (s : State) (a : Attempt) : s.Calm (s.failAttempt a) := by
  have start : s.Calm (s.releaseLine .failed).countFailure :=
    (State.Calm.setLink s _ _ _).trans (.setLine (s.releaseLine .failed) _)
  exact start.trans ((State.Calm.contentFails _ _ _).trans (.isolationAfterError _ _))

theorem State.Calm.notice (s : State) : s.Calm s.notice := .of_units (.notice s) (by simp) (by simp)

theorem State.Calm.contentSent (s : State) (c : Content) : s.Calm (s.contentSent c) := by
  cases c with
  | urgent u => exact .refl s
  | status => exact .setTx s _
  | claim f fire =>
    unfold State.contentSent State.claimEchoes
    simp only
    split
    · exact (State.Calm.setTx s _).trans (.decideClaim _ f _)
    · exact (State.Calm.setTx s _).trans ((State.Calm.takeEntry _ _).trans (.abandonedEnds _ f))

theorem State.Calm.completeAttempt (s : State) (a : Attempt) : s.Calm (s.completeAttempt a) := by
  have start := State.Calm.setLink s { s.line with state := .receiving, failures := 0 }
    { s.rx with asm := .tail, buffer := frameChars s.cfg.station a.content } { s.tx with onLine := none }
  have ended : ∀ t : State, t.Calm t.endIsolation := fun t =>
    (State.Calm.setLink t { t.line with isolated := false } t.rx { t.tx with isolatedMark := true, probeOffer := false }).trans
      ((State.Calm.setShare _ _).trans (.notice _))
  unfold State.completeAttempt
  simp only
  split
  · exact start.trans ((State.Calm.contentSent _ _).trans (ended _))
  · exact start.trans (.contentSent _ _)

theorem State.Calm.beginAttempt (s : State) (a : Attempt) : s.Calm (s.beginAttempt a) := by
  have content : ∀ (t : State) (c : Content), t.Calm (t.contentStarts c) := by
    intro t c
    cases c with
    | urgent u => exact .setTx t _
    | claim f fire => exact (State.Calm.setClaim t f _ _).trans (.setTx _ _)
    | status => exact .setTx t _
  have start := State.Calm.setLink s { s.line with state := .sending }
    { s.rx with asm := .assembling, buffer := [], mark := .sending } s.tx
  exact start.trans ((content _ _).trans (.setTx _ _))

/-! ### Reception -/

theorem State.Calm.condemnFrame (s : State) : s.Calm s.condemnFrame := by
  unfold State.condemnFrame
  split
  · exact .refl s
  · exact .setRx s _

theorem State.Calm.frameCompletes (s : State) (chars : List Byte) : s.Calm (s.frameCompletes chars) := by
  have heard : ∀ (t : State) (h : Heard), t.Calm (t.takeHeard h) := by
    intro t h
    unfold State.takeHeard
    split
    · exact .setRx t _
    · split
      · unfold State.heardClaim
        split
        · split
          · exact .takeEntry t _
          · exact .setRx t _
        · exact .refl t
      · split
        · exact .setRx t _
        · exact .refl t
  unfold State.frameCompletes
  split
  · exact .completeAttempt s _
  · exact .refl s
  · split
    · exact (State.Calm.setRx s _).trans (heard { s with rx := { s.rx with asm := .tail, buffer := chars } } _)
    · exact .condemnFrame s
    · exact .refl s

end Sys2Proof.Machine
end

section
/-! What every command does to the laws (Safety.lean): it keeps them, and where it gives a damper a new command, starts a
claim or requests a pass, its end restores what that opened. The four invariants are read off this one relation. -/

namespace Sys2Proof.Machine

/-- What a command answers with. -/
structure State.Ends (s t : State) : Prop where
  keeps : s.Keeps t
  follow : s.DampersFollow → t.DampersFollow
  served : s.RequestsServed → t.RequestsServed

theorem State.Ends.refl (s : State) : s.Ends s := ⟨.refl s, id, id⟩

theorem State.Ends.trans {s t u : State} (h : s.Ends t) (k : t.Ends u) : s.Ends u :=
  ⟨h.keeps.trans k.keeps, k.follow ∘ h.follow, k.served ∘ h.served⟩

/-- An event that ends with the dampers' answers, the claims and the requests. -/
theorem State.Ends.finish {s t : State} (h : s.Keeps t) : s.Ends t.finish :=
  ⟨h.trans (.finish t), fun _ => t.finish_follow, fun _ => t.finish_served⟩

/-- An event that gives no damper a new command and ends with the service of requests. -/
theorem State.Ends.serve {s t : State} (h : s.Keeps t) (k : s.Calm t) : s.Ends t.serve :=
  ⟨h.trans (State.FanStep.serve t).keeps, fun hf d => by
      rw [State.serve_command, State.serve_damper]; exact k.follow hf d,
    fun hr => ⟨by simp, by simpa [k.begun] using hr.2⟩⟩

/-- An event that gives no damper a new command and requests no pass. -/
theorem State.Ends.calm {s t : State} (h : s.Keeps t) (k : s.Calm t) (requested : t.share.requested = s.share.requested) :
    s.Ends t :=
  ⟨h, k.follow, fun hr => ⟨requested.trans hr.1, k.begun.trans hr.2⟩⟩

/-- A block outside the laws: the lines, the Transmit Unit, the port, the fume channels, the time. -/
theorem State.Ends.of_eq {s t : State} (fans : t.fans = s.fans) (dampers : t.dampers = s.dampers)
    (zone : t.zone = s.zone) (monitor : t.monitor = s.monitor) (forces : t.forces = s.forces) (view : t.view = s.view)
    (rx : t.rx = s.rx) (line : t.line.failures = s.line.failures) (store : t.store = s.store)
    (share : t.share = s.share) : s.Ends t :=
  have step : s.FanStep t := .of_fans ⟨dampers, store, view, monitor, zone, forces, rx, line⟩ fans
  .calm step.keeps (.of_units step (by rw [fans]) (by rw [fans])) (by rw [share])

/-- R13, R104: the passing of time counts the windows down. -/
theorem State.Ends.elapse (s : State) (dt : Tu) : s.Ends (s.elapse dt) := by
  have step : s.FanStep (s.elapse dt) := by
    refine .of_alike (by constructor <;> simp) (fun f => ?_) (by simp) (by simp)
    obtain ⟨w, hw⟩ := s.elapse_fan dt f
    rw [hw]
    exact ⟨rfl, rfl, rfl, rfl⟩
  refine .calm step.keeps (.of_step step (fun f => ?_) ?_) (by simp)
  · obtain ⟨w, hw⟩ := s.elapse_fan dt f
    rw [hw]
  · unfold State.elapse
    split
    · simp only; split <;> rfl
    · rfl

/-- A live command: time passes, and its effect comes about. -/
theorem State.Ends.live {dt : Tu} {s t : State} {f : State → State} (h : ∀ u : State, u.Ends (f u))
    (ht : live dt s f = .next t) : s.Ends t := by
  unfold Machine.live at ht
  split at ht
  · cases ht; exact (State.Ends.elapse s dt).trans (h _)
  · cases ht; exact .refl s

/-! ### The Damper and Fan Controllers -/

theorem State.Ends.setPins (s : State) (p : Pins) : s.Ends { s with pins := p } :=
  .of_eq rfl rfl rfl rfl rfl rfl rfl rfl rfl rfl

theorem State.Keeps.answerLimit (s : State) (d : DamperId) (w : LimitId) (active : Bool) :
    s.Keeps (s.answerLimit d w active) := by
  unfold State.answerLimit
  split
  · rename_i hf
    split
    · exact .moveDamper (DamperUnit.Sound.onLimit hf w _ _)
    · exact .moveDamper (DamperUnit.Sound.offLimit hf w _)
  · exact .refl s

theorem execLimitChange_ends {dt : Tu} {d : DamperId} {w : LimitId} {active : Bool} {s t : State}
    (h : execLimitChange dt d w active s = .next t) : s.Ends t := by
  unfold execLimitChange at h
  split at h
  · split at h <;> cases h
    · exact .elapse s dt
    · exact (State.Ends.elapse s dt).trans
        (.finish ((State.Ends.setPins (s.elapse dt) _).keeps.trans (.answerLimit _ d w active)))
  · cases h; exact .setPins s _

theorem execTravelTimerExpiry_ends {dt : Tu} {d : DamperId} {s t : State}
    (h : execTravelTimerExpiry dt d s = .next t) : s.Ends t := by
  refine .live (fun u => ?_) h
  split
  · rename_i hd
    exact .finish (.moveDamper fun _ => .stuckFor hd.1 _)
  · exact .refl u

theorem execLimitLossTimerExpiry_ends {dt : Tu} {d : DamperId} {s t : State}
    (h : execLimitLossTimerExpiry dt d s = .next t) : s.Ends t := by
  refine .live (fun u => ?_) h
  split
  · rename_i hd
    exact .finish (.moveDamper fun _ => .stuckFor hd.1 _)
  · exact .refl u

/-- R90: s moves while a fan turns. -/
theorem execSetpointStep_ends {dt : Tu} {s t : State} (h : execSetpointStep dt s = .next t) : s.Ends t := by
  refine .live (fun u => ?_) h
  split
  · rename_i hd
    have turning : u.anyTurning = true := by simp at hd; exact hd.2
    refine ⟨⟨⟨id, id, id, id, id, id, fun hr => ⟨fun hn => ?_, hr.2⟩⟩, id⟩, id, id⟩
    exact absurd (turning.symm.trans hn) (by simp)
  · exact .refl u

theorem execBackoffTimerExpiry_ends {dt : Tu} {f : Fan} {s t : State}
    (h : execBackoffTimerExpiry dt f s = .next t) : s.Ends t := by
  refine .live (fun u => ?_) h
  split
  · exact .calm (State.FanStep.handClaim u f).keeps (.handClaim u f) (by simp)
  · exact .refl u

theorem execStartEntryExpiry_ends {dt : Tu} {s t : State} (h : execStartEntryExpiry dt s = .next t) : s.Ends t := by
  refine .live (fun u => ?_) h
  split
  · exact .refl u
  · rename_i e rest hs
    split
    · exact .calm ((State.FanStep.setStarts u rest fun hb => by simp [hs] at hb; omega).trans (.handRemoval _ _)).keeps
        ((State.Calm.setStarts u rest).trans (.handRemoval _ _)) (by simp)
    · exact .refl u

theorem execRundownTimerExpiry_ends {dt : Tu} {f : Fan} {s t : State}
    (h : execRundownTimerExpiry dt f s = .next t) : s.Ends t := by
  refine .live (fun u => ?_) h
  split
  · exact .finish (State.FanStep.endRundown u f).keeps
  · exact .refl u

/-- R104, R105: a fan's record replaced by one that turns as it did, within its bounds and in order. -/
theorem State.FanStep.setFan {s : State} {f : Fan} {u : FanUnit} (turns : u.state.turns = (s.fan f).state.turns)
    (held : u.state.needsOpen = true → (s.fan f).state.needsOpen = true)
    (pulses : (s.fan f).pulses ≤ Config.counterMax → u.pulses ≤ Config.counterMax)
    (rest : s.FansAtRest → u.state ≠ .running → u.low = 0 ∧ u.judge = false) : s.FanStep (s.setFan f u) := by
  have same : ∀ g, ((s.setFan f u).fan g).state.turns = (s.fan g).state.turns := fun g => by
    rw [State.setFan_fan]; split <;> simp [*]
  refine ⟨⟨rfl, rfl, rfl, rfl, rfl, rfl, rfl, rfl⟩, fun g hg => .inl ?_, fun hb => ⟨hb.1, fun g => ?_⟩,
    fun hr => ⟨?_, fun g hg => ?_⟩⟩
  · rw [State.setFan_fan] at hg
    split at hg
    · rename_i he; subst he; exact held hg
    · exact hg
  · rw [State.setFan_fan]
    split
    · exact pulses (hb.2 f)
    · exact hb.2 g
  · simpa only [State.anyTurning, State.runOutput, same, State.setFan_setpoint] using hr.1
  · rw [State.setFan_fan] at hg ⊢
    split at hg
    · rw [if_pos ‹_›]; exact rest hr hg
    · rw [if_neg ‹_›]; exact hr.2 g hg

theorem State.FanStep.calm_setFan {s : State} {f : Fan} {u : FanUnit} (h : s.FanStep (s.setFan f u))
    (state : u.state = (s.fan f).state) : s.Calm (s.setFan f u) :=
  .of_step h (fun g => by rw [State.setFan_fan]; split <;> simp [*]) rfl

theorem execTachPulse_ends {dt : Tu} {f : Fan} {s t : State} (h : execTachPulse dt f s = .next t) : s.Ends t := by
  have count : ∀ u : State, u.Ends (u.countPulse f) := by
    intro u
    unfold State.countPulse
    split
    · have step : u.FanStep (u.setFan f { u.fan f with pulses := bump (u.fan f).pulses }) :=
        .setFan rfl id (fun _ => bump_le _) fun hr hn => hr.2 f hn
      exact .calm step.keeps (step.calm_setFan rfl) rfl
    · exact .refl u
  unfold execTachPulse at h
  split at h <;> cases h
  · exact (State.Ends.elapse s dt).trans ((State.Ends.setPins _ _).trans (count _))
  · exact .setPins s _

/-- R105: a judge mark stands in RUNNING alone, and so a judgement changes the low count of no fan at rest. -/
theorem State.FanStep.judgeWindow (s : State) (f : Fan) : s.FanStep (s.judgeWindow f) := by
  unfold State.judgeWindow
  split
  · rename_i hj
    have running : s.FansAtRest → (s.fan f).state ≠ .running → False := fun hr hn => by
      simp [(hr.2 f hn).2] at hj
    split
    · split
      · exact .setFan rfl id id fun hr hn => (running hr hn).elim
      · exact .faultFan s f _
    · exact .setFan rfl id id fun hr hn => (running hr hn).elim
  · exact .refl s

theorem execProvingWindowEnd_ends {dt : Tu} {f : Fan} {s t : State}
    (h : execProvingWindowEnd dt f s = .next t) : s.Ends t := by
  have renew : ∀ u : State, u.FanStep (u.renewWindow f) := fun u =>
    .setFan rfl id (fun _ => Nat.zero_le _) fun hr hn => ⟨(hr.2 f hn).1, by simp [hn]⟩
  refine .live (fun u => ?_) h
  split
  · exact .finish ((State.FanStep.judgeWindow u f).trans (renew _)).keeps
  · exact .refl u

/-! ### The Fire Point Monitor, the Mode Controller and the Fume Monitor -/

/-- R53: the filters of the inputs are no part of the laws. -/
theorem State.Ends.setFilters (s : State) (m : Monitor) (p : Pins) (evaluation : m.evaluation = s.monitor.evaluation)
    (decl : m.decl = s.monitor.decl) (confirm : m.confirm = s.monitor.confirm) (cause : m.cause = s.monitor.cause) :
    s.Ends { s with monitor := m, pins := p } where
  keeps := ⟨.of_blocks rfl rfl id id id, by
    simp only [State.ModeLaws, State.ModeSound, State.TimersSound, State.ForcesSound, evaluation, decl, confirm, cause]
    exact id⟩
  follow h d := by
    have cmd : State.effectiveCommand { s with monitor := m, pins := p } d = s.effectiveCommand d :=
      State.effectiveCommand_congr (by rfl) (by rfl) decl (by rfl) (by rfl) (fun _ => by rfl) (fun _ => by rfl) d
    rw [cmd]
    exact h d
  served := id

theorem execRawInputChange_ends {dt : Tu} {i : InputId} {active : Bool} {s t : State}
    (h : execRawInputChange dt i active s = .next t) : s.Ends t := by
  unfold execRawInputChange at h
  split at h <;> cases h
  · exact (State.Ends.elapse s dt).trans
      (.setFilters (s.elapse dt) _ _ (by simp) (by simp) (by simp) (by simp))
  · exact .setPins s _

theorem State.Keeps.setFiltered (s : State) (i : InputId) (active : Bool) : s.Keeps (s.setFiltered i active) :=
  (State.Ends.setFilters s _ s.pins (by rfl) (by rfl) (by rfl) (by rfl)).keeps

theorem State.Keeps.resetRequest (s : State) (src : ResetSource) : s.Keeps (s.resetRequest src) := by
  unfold State.resetRequest
  split
  · rename_i h
    refine .acceptReset s src ?_
    unfold State.resetOutcome at h
    by_contra hn
    simp [hn] at h
  · exact .refl s

theorem State.Keeps.pointActivated (s : State) (p : Ix4) (on : s.monitor.evaluation = true) :
    s.Keeps (s.pointActivated p) := by
  have latch : s.Keeps (s.setLatch p) := (State.Ends.setFilters s _ s.pins (by rfl) (by rfl) (by rfl) (by rfl)).keeps
  have once : ∀ (t : State) (c : FireCause), t.monitor.evaluation = true → t.Keeps (t.declareOnce c) := by
    intro t c ht
    unfold State.declareOnce
    split
    · exact .refl t
    · exact .declare t c ht
  unfold State.pointActivated
  split
  · exact .refl s
  · unfold State.smokeActivated
    split
    · split
      · exact .declare s _ on
      · exact .enterPreAlarm s on ‹_›
    · split
      · exact .declare s _ on
      · exact .refl s
    · exact .refl s
  · exact latch.trans (once _ _ on)
  · exact latch.trans (once _ _ on)
  · exact once s _ on

theorem execActivation_ends {dt : Tu} {i : InputId} {s t : State} (h : execActivation dt i s = .next t) : s.Ends t := by
  refine .live (fun u => ?_) h
  split
  · refine .finish ((State.Keeps.setFiltered u i true).trans ?_)
    cases i with
    | key => exact .resetRequest _ _
    | point p =>
      simp only [State.afterActivation]
      split
      · exact .pointActivated _ p ‹_›
      · exact .refl _
  · exact .refl u

theorem execDeactivation_ends {dt : Tu} {i : InputId} {s t : State}
    (h : execDeactivation dt i s = .next t) : s.Ends t := by
  refine .live (fun u => ?_) h
  split
  · refine .finish ((State.Keeps.setFiltered u i false).trans ?_)
    cases i with
    | key => exact .refl _
    | point p =>
      simp only [State.afterDeactivation]
      split
      · rename_i hc; exact .clearPreAlarm _ hc.2.2.1
      · exact .refl _
  · exact .refl u

theorem execConfirmationTimerExpiry_ends {dt : Tu} {s t : State}
    (h : execConfirmationTimerExpiry dt s = .next t) : s.Ends t := by
  refine .live (fun u => ?_) h
  split
  · rename_i hc; exact .finish (.declare u _ hc.1)
  · exact .refl u

/-- R73, R76: a mode that keeps no contain list and no fire ends in NORMAL. -/
theorem State.Keeps.enterNormal (s : State) (h : s.zone.mode = .listen ∨ s.zone.mode = .purge) :
    s.Keeps (s.enterMode .normal) := by
  refine ⟨.enterMode s _, fun hl => ?_⟩
  rw [State.modeLaws_iff] at hl
  have list : s.zone.contain = [] := by
    by_contra hc
    have := hl.1.1 hc
    rcases h with h | h <;> simp [h] at this
  rcases h with h | h <;>
    exact .enterMode (fun hc => absurd list hc) (by simp) (by simp_all) (by simp_all) (by simp) hl.2.1.2.2.1 hl.2.1.2.2.2

theorem execListenTimerExpiry_ends {dt : Tu} {s t : State} (h : execListenTimerExpiry dt s = .next t) : s.Ends t := by
  refine .live (fun u => ?_) h
  split
  · rename_i hc; exact .finish (.enterNormal u (.inl hc.1))
  · exact .refl u

theorem execPurgeTimerExpiry_ends {dt : Tu} {s t : State} (h : execPurgeTimerExpiry dt s = .next t) : s.Ends t := by
  refine .live (fun u => ?_) h
  split
  · rename_i hc; exact .finish (.enterNormal u (.inr hc.1))
  · exact .refl u

theorem State.Ends.setFume (s : State) (x : Fume) : s.Ends { s with fume := x } :=
  .of_eq rfl rfl rfl rfl rfl rfl rfl rfl rfl rfl

theorem execSampleEvent_ends {dt : Tu} {x : Quad Reading} {s t : State}
    (h : execSampleEvent dt x s = .next t) : s.Ends t := by
  have stage : ∀ u : State, u.Ends u.recompute.serve := fun u =>
    .serve (State.FanStep.recompute u).keeps (.of_units (.recompute u) (by simp) (by simp))
  refine .live (fun u => ?_) h
  split
  · split
    · exact (State.Ends.setFume u _).trans ((State.Ends.setFume u.rearmSample _).trans (stage _))
    · exact .setFume u _
  · exact .refl u

/-! ### The Peer View and the Share Computer -/

/-- R14: a sweep deletes no neighbour, and changes no flag of one. -/
theorem State.sweepNow_hits (s : State) : s.sweepNow.preAlarmHit = s.preAlarmHit := by
  have entry : ∀ (now : Tu) (h : FilterIx) (e : PeerEntry),
      ((sweepEntry now e).map fun e => decide (e.hit = some h) && e.flags.preAlarm).getD false =
        (decide (e.hit = some h) && e.flags.preAlarm) := by
    intro now h e
    unfold sweepEntry PeerEntry.isNeighbour
    (repeat' split) <;> simp_all
  have table : ∀ (h : FilterIx) (es : List PeerEntry),
      ((es.filterMap (sweepEntry s.tu)).any fun e => decide (e.hit = some h) && e.flags.preAlarm) =
        es.any fun e => decide (e.hit = some h) && e.flags.preAlarm := by
    intro h es
    induction es with
    | nil => rfl
    | cons e es ih =>
      have he := entry s.tu h e
      rw [List.filterMap_cons, List.any_cons, ← ih, ← he]
      cases sweepEntry s.tu e <;> simp
  funext h
  unfold State.sweepNow
  simp only
  split
  · rfl
  · exact table h _

theorem State.sweepNow_rest (s : State) : s.sweepNow.fans = s.fans ∧ s.sweepNow.dampers = s.dampers ∧
    s.sweepNow.forces = s.forces ∧ s.sweepNow.zone = s.zone ∧ s.sweepNow.monitor = s.monitor ∧
    s.sweepNow.store = s.store := by
  unfold State.sweepNow
  simp only
  split <;> exact ⟨rfl, rfl, rfl, rfl, rfl, rfl⟩

theorem execSweep_ends {dt : Tu} {s t : State} (h : execSweep dt s = .next t) : s.Ends t := by
  refine .live (fun u => ?_) h
  split
  · split
    · exact ⟨.setView u _ id id rfl, id, id⟩
    · obtain ⟨fans, dampers, forces, zone, monitor, store⟩ := u.sweepNow_rest
      have cmd : ∀ d, u.sweepNow.effectiveCommand d = u.effectiveCommand d :=
        State.effectiveCommand_congr forces (by rw [zone]) (by rw [monitor]) u.sweepNow_hits (State.cfg_of_store store)
          (fun f => by rw [State.fan_congr fans]) fun k => by rw [State.damper_congr dampers]
      refine ⟨(State.Keeps.sweepNow u).trans (State.FanStep.serve _).keeps, fun hf d => ?_, fun hr => ⟨by simp, ?_⟩⟩
      · rw [State.serve_command, State.serve_damper, cmd, State.damper_congr dampers]; exact hf d
      · simpa [fans] using hr.2
  · exact .refl u

theorem execDigestZoneStatus_ends {dt : Tu} {s t : State} (h : execDigestZoneStatus dt s = .next t) : s.Ends t := by
  refine .live (fun u => ?_) h
  split
  · exact .finish ((State.Keeps.popFrame u).trans (.takeStatus _ _ _ _ _ _))
  · exact .refl u

theorem execDigestFireAlarm_ends {dt : Tu} {s t : State} (h : execDigestFireAlarm dt s = .next t) : s.Ends t := by
  refine .live (fun u => ?_) h
  split
  · exact .finish ((State.Keeps.popFrame u).trans (.takeAlarm _ _ _))
  · exact .refl u

theorem execDigestFireReset_ends {dt : Tu} {s t : State} (h : execDigestFireReset dt s = .next t) : s.Ends t := by
  refine .live (fun u => ?_) h
  split
  · exact .finish ((State.Keeps.popFrame u).trans (.takeReset _ _))
  · exact .refl u

theorem State.Keeps.unfreeze (s : State) : s.Keeps s.unfreeze := by
  have start : s.Keeps { s with share := { s.share with pass := none }, view := { s.view with pendingSweep := false } } :=
    (State.FanStep.setShare s { s.share with pass := none }).keeps.trans (.setView _ _ id id rfl)
  unfold State.unfreeze
  simp only
  split <;> split
  · exact (start.trans (.sweepNow _)).trans (.emptyView _)
  · exact start.trans (.emptyView _)
  · exact start.trans (.sweepNow _)
  · exact start

theorem execPassComplete_ends {dt : Tu} {s t : State} (h : execPassComplete dt s = .next t) : s.Ends t := by
  have publish : ∀ (u : State) (r : Results), u.FanStep (u.publish r) := by
    intro u r
    unfold State.publish
    simp only
    split
    · exact .setShare u _
    · exact (State.FanStep.setShare u _).trans (.notice _)
  have hand : ∀ (u : State) (x : Nat), u.FanStep (u.handTarget x) := fun u x =>
    have target : u.FanStep { u with fans := { u.fans with target := x } } :=
      .of_units ⟨rfl, rfl, rfl, rfl, rfl, rfl, rfl, rfl⟩ rfl rfl id
    target.trans (.stage _)
  have again : ∀ u : State, u.FanStep u.gatherAgain := fun u => .setShare u _
  refine .live (fun u => ?_) h
  split
  · exact .refl u
  · split
    · exact .finish (((publish u _).trans (hand _ _)).keeps.trans ((State.Keeps.unfreeze _).trans (again _).keeps))
    · exact .refl u

/-! ### The zone line -/

theorem execLineIdle_ends {idle : IdleRun} {s t : State} (h : execLineIdle idle s = .next t) : s.Ends t := by
  refine .live (fun u => ?_) h
  split
  · obtain ⟨a, b, lost, errors⟩ := u.rx.atIdle_rest
    exact .calm (.setLink u _ _ _ id a b errors lost) (.setLink u _ _ _) rfl
  · exact .refl u

theorem execAnothersStartBit_ends {dt : Tu} {s t : State} (h : execAnothersStartBit dt s = .next t) : s.Ends t := by
  refine .live (fun u => ?_) h
  split
  · exact .refl u
  · obtain ⟨a, b, lost, errors⟩ := u.rx.atStartBit_rest
    exact .calm (.setLink u _ _ _ id a b errors lost) (.setLink u _ _ _) rfl

theorem execFrameStart_ends {dt : Tu} {s t : State} (h : execFrameStart dt s = .next t) : s.Ends t := by
  refine .live (fun u => ?_) h
  split
  · split
    · rename_i a _
      refine .calm (.beginAttempt u a) (.beginAttempt u a) ?_
      unfold State.beginAttempt
      cases a.content <;> simp [State.contentStarts, State.claimStarts, State.statusStarts]
    · exact .refl u
  · exact .refl u

theorem execContentionLost_ends {dt : Tu} {s t : State} (h : execContentionLost dt s = .next t) : s.Ends t := by
  refine .live (fun u => ?_) h
  split
  · exact .serve (.loseContention u _) (.loseContention u _)
  · exact .refl u

theorem execBitError_ends {dt : Tu} {s t : State} (h : execBitError dt s = .next t) : s.Ends t := by
  refine .live (fun u => ?_) h
  split
  · exact .serve (.failAttempt u _) (.failAttempt u _)
  · exact .refl u

theorem execLineStuckDetected_ends {dt : Tu} {s t : State} (h : execLineStuckDetected dt s = .next t) : s.Ends t := by
  refine .live (fun u => ?_) h
  have line : ∀ x : Line, x.failures = u.line.failures → u.Keeps { u with line := x } := fun x hx =>
    .setLine u x fun hf => by rwa [hx]
  exact .serve ((line _ (by rfl)).trans (State.FanStep.setIsolated _).keeps)
    ((State.Calm.setLine u _).trans (.setIsolated _))

theorem State.Ends.setLine (s : State) (x : Line) (failures : x.failures = s.line.failures) :
    s.Ends { s with line := x } :=
  .of_eq rfl rfl rfl rfl rfl rfl rfl failures rfl rfl

theorem State.Ends.setTx (s : State) (x : Transmit) : s.Ends { s with tx := x } :=
  .of_eq rfl rfl rfl rfl rfl rfl rfl rfl rfl rfl

theorem execLineStuckClear_ends {dt : Tu} {s t : State} (h : execLineStuckClear dt s = .next t) : s.Ends t := by
  refine .live (fun u => ?_) h
  split
  · exact .setLine u _ rfl
  · exact .refl u

theorem execFrameCondemned_ends {dt : Tu} {chars : List Byte} {e : Bool} {s t : State}
    (h : execFrameCondemned dt chars e s = .next t) : s.Ends t := by
  refine .live (fun u => ?_) h
  split
  · exact .calm (.condemnFrame u) (.condemnFrame u) (by unfold State.condemnFrame; split <;> rfl)
  · exact .refl u

theorem execFrameArrival_ends {dt : Tu} {chars : List Byte} {s t : State}
    (h : execFrameArrival dt chars s = .next t) : s.Ends t := by
  refine .live (fun u => ?_) h
  split
  · exact .serve (.frameCompletes u chars) (.frameCompletes u chars)
  · exact .refl u

theorem execHeartbeatExpiry_ends {dt : Tu} {s t : State} (h : execHeartbeatExpiry dt s = .next t) : s.Ends t := by
  refine .live (fun u => ?_) h
  split
  · exact (State.Ends.setTx u _).trans (.serve (.requestPass u.startHeartbeat) (.setShare _ _))
  · exact .refl u

theorem execSpacingTimerExpiry_ends {dt : Tu} {s t : State} (h : execSpacingTimerExpiry dt s = .next t) : s.Ends t := by
  refine .live (fun u => ?_) h
  split
  · exact .setTx u _
  · exact .refl u

theorem execProbeInstant_ends {dt : Tu} {s t : State} (h : execProbeInstant dt s = .next t) : s.Ends t := by
  refine .live (fun u => ?_) h
  split
  · exact .setTx u _
  · exact .refl u

/-! ### The Service Port and the Point Space -/

theorem State.Ends.setPort (s : State) (x : Port) : s.Ends { s with port := x } :=
  .of_eq rfl rfl rfl rfl rfl rfl rfl rfl rfl rfl

theorem State.Ends.respond (s : State) (code : Byte) (st : Status) (data : List Byte) : s.Ends (s.respond code st data) :=
  .setPort s _

/-- R167: a request ends as its command does, or at the port. -/
theorem State.Ends.request {act : State → State} (h : ∀ u : State, u.Ends (act u)) (s : State) (code : Byte) (n : Nat)
    (req : Request) : s.Ends (s.request code n req act) := by
  have char : s.Ends s.charNow := .setPort s _
  unfold State.request
  split
  · split
    · exact char.trans (.setPort _ _)
    · split
      · exact char.trans (.respond _ _ _ _)
      · split
        · exact char.trans (.respond _ _ _ _)
        · exact char.trans (h _)
  · split
    · exact .refl s
    · exact char

theorem execServiceTimeout_ends {dt : Tu} {cs : List Byte} {s t : State}
    (h : execServiceTimeout dt cs s = .next t) : s.Ends t := by
  refine .live (fun u => ?_) h
  have gap : u.Ends (u.charBeforeGap cs) := by
    unfold State.charBeforeGap
    split
    · exact .refl u
    · exact .setPort u _
  have ending : ∀ v : State, v.Ends v.endOfGap := by
    intro v
    unfold State.endOfGap
    split
    · exact .refl v
    · split
      · exact .refl v
      · exact .setPort v _
      · exact .respond v _ _ _
  split
  · exact gap.trans ((State.Ends.setPort (u.charBeforeGap cs) _).trans (ending _))
  · exact .refl u

theorem execServiceFramingError_ends {dt : Tu} {cs : List Byte} {s t : State}
    (h : execServiceFramingError dt cs s = .next t) : s.Ends t := by
  have ending : ∀ v : State, v.Ends v.framingError := by
    intro v
    unfold State.framingError
    split
    · exact .refl v
    · split <;> exact .setPort v _
  exact .live (fun u => (State.Ends.setPort u _).trans (ending _)) h

theorem execResponseSent_ends {dt : Tu} {s t : State} (h : execResponseSent dt s = .next t) : s.Ends t := by
  refine .live (fun u => ?_) h
  split
  · exact .refl u
  · exact .setPort u _

theorem execUnknownCommand_ends {dt : Tu} {code : Byte} {req : Request} {s t : State}
    (h : execUnknownCommand dt code req s = .next t) : s.Ends t := by
  refine .live (fun u => ?_) h
  split
  · exact .refl u
  · exact .request (fun v => .respond v _ _ _) u _ _ _

theorem execIdentify_ends {dt : Tu} {req : Request} {s t : State} (h : execIdentify dt req s = .next t) : s.Ends t :=
  .live (fun u => .request (fun v => .respond v _ _ _) u _ _ _) h

theorem execReadState_ends {dt : Tu} {req : Request} {s t : State} (h : execReadState dt req s = .next t) : s.Ends t :=
  .live (fun u => .request (fun v => .respond v _ _ _) u _ _ _) h

theorem execReadPeer_ends {dt : Tu} {req : Request} {s t : State} (h : execReadPeer dt req s = .next t) : s.Ends t :=
  .live (fun u => .request (fun v => by split <;> exact .respond v _ _ _) u _ _ _) h

theorem execReadStarts_ends {dt : Tu} {req : Request} {s t : State} (h : execReadStarts dt req s = .next t) : s.Ends t :=
  .live (fun u => .request (fun v => .respond v _ _ _) u _ _ _) h

theorem execReadRecord_ends {dt : Tu} {req : Request} {s t : State} (h : execReadRecord dt req s = .next t) : s.Ends t :=
  .live (fun u => .request (fun v => .respond v _ _ _) u _ _ _) h

theorem execReadPoints_ends {dt : Tu} {req : Request} {l : LiveLines} {s t : State}
    (h : execReadPoints dt req l s = .next t) : s.Ends t :=
  .live (fun u => (State.Ends.setPins u _).trans
    (.request (fun v => by split <;> exact .respond v _ _ _) (u.seeLines l) _ _ _)) h

/-- R164: the forces replaced, in HOLD or NORMAL or by none. -/
theorem State.Keeps.setForces (s : State) (x : Forces)
    (h : s.zone.mode ≠ .hold → s.zone.mode ≠ .normal → s.forces = Forces.clear → x = Forces.clear) :
    s.Keeps { s with forces := x } :=
  ⟨.of_blocks rfl rfl id id id, fun ⟨mode, timers, forces⟩ => ⟨mode, timers, fun h1 h2 => h h1 h2 (forces h1 h2)⟩⟩

theorem execModifyPoints_ends {dt : Tu} {req : Request} {s t : State}
    (h : execModifyPoints dt req s = .next t) : s.Ends t := by
  refine .live (fun u => .request (fun v => ?_) u _ _ _) h
  split
  · rename_i ok
    refine .finish ((State.Keeps.setForces v _ fun h1 h2 => ?_).trans (State.Ends.respond _ _ _ _).keeps)
    unfold State.modifyOutcome at ok
    split at ok
    · cases ok
    · simp [h1, h2] at ok
  · exact .respond v _ _ _

theorem execReleasePoints_ends {dt : Tu} {req : Request} {s t : State}
    (h : execReleasePoints dt req s = .next t) : s.Ends t :=
  .live (fun u => .request (fun v => .finish ((State.Keeps.setForces v _ fun _ _ _ => rfl).trans
    (State.Ends.respond v.releaseForces _ _ _).keeps)) u _ _ _) h

theorem execFireReset_ends {dt : Tu} {req : Request} {s t : State} (h : execFireReset dt req s = .next t) : s.Ends t := by
  refine .live (fun u => .request (fun v => ?_) u _ _ _) h
  split
  · rename_i ok
    have accept := State.Keeps.resetRequest v .service
    rw [State.resetRequest, if_pos ok] at accept
    exact .finish (accept.trans (State.Ends.respond _ _ _ _).keeps)
  · exact .respond v _ _ _

/-! ### Fault clear, reset and the record -/

theorem State.Keeps.settleStuck (s : State) (d : DamperId) : s.Keeps (s.settleStuck d) := by
  unfold State.settleStuck
  split
  · rename_i h; exact .settleByLimits s d h.1
  · exact .refl s

theorem State.FanStep.returnFan (s : State) (f : Fan) : s.FanStep (s.returnFan f) := by
  unfold State.returnFan
  split
  · rename_i h
    exact .setFan (by simp [h, FanState.turns]) (by simp [FanState.needsOpen]) id
      fun hr _ => ⟨rfl, (hr.2 f (by simp [h])).2⟩
  · exact .refl s

theorem State.FanStep.returnFans (s : State) : s.FanStep s.returnFans := by
  have judge : ∀ (t : State) (n : Nat), t.FanStep (t.availabilityFrom n) := by
    intro t n
    unfold State.availabilityFrom
    split
    · exact .refl t
    · exact (State.FanStep.fmaxChanged t).trans (.stage _)
  exact ((State.FanStep.returnFan s .A).trans (.returnFan _ .B)).trans
    ((State.FanStep.noticeFanFault _ _).trans (judge _ _))

theorem State.FanStep.stickAgain (s : State) (f : Fan) : s.FanStep (s.stickAgain f) := by
  unfold State.stickAgain
  split
  · exact .faultFan s f _
  · exact .refl s

theorem State.Keeps.clearAll (s : State) : s.Keeps s.clearAll := by
  have settle : s.Keeps (DamperId.all.foldl State.settleStuck s) := .foldl State.Keeps.settleStuck _ s
  have fans : ∀ t : State, t.Keeps ((t.returnFans.stickAgain .A).stickAgain .B) := fun t =>
    ((State.FanStep.returnFans t).trans ((State.FanStep.stickAgain _ .A).trans (.stickAgain _ .B))).keeps
  have latch : ∀ t : State, t.Keeps t.clearDuplicate := fun t => .setRx t { t.rx with duplicate := false } id id id id
  exact settle.trans ((fans _).trans (latch _))

theorem execClearFaults_ends {dt : Tu} {req : Request} {s t : State}
    (h : execClearFaults dt req s = .next t) : s.Ends t :=
  .live (fun u => .request (fun v => .finish ((State.Keeps.clearAll v).trans (State.Ends.respond _ _ _ _).keeps)) u _ _ _) h

theorem State.FanStep.loadWindow (s : State) (f : Fan) : s.FanStep (s.loadWindow f) :=
  .setFan rfl id (fun _ => Nat.zero_le _) fun hr hn => ⟨(hr.2 f hn).1, rfl⟩

/-- R108: the record fits a damper that was not; a damper at rest, not fitted, is in order fitted too. -/
theorem State.Keeps.judgeDamper (s : State) (d : DamperId) : s.Keeps (s.judgeDamper d) := by
  unfold State.judgeDamper
  split
  · split
    · exact .refl s
    · rename_i hn
      have fit : s.Keeps (s.setDamper d { s.damper d with fitted := true }) := by
        have same : ∀ d', ((s.setDamper d { s.damper d with fitted := true }).damper d').state = (s.damper d').state :=
          fun d' => by rw [State.setDamper_damper]; split <;> simp [*]
        refine ⟨⟨fun hi f hf => (same _).trans (hi f hf), fun hd d' => ?_, id, id, id, id, id⟩, id⟩
        rw [State.setDamper_damper]
        split
        · obtain ⟨travel, loss, reason, rest⟩ := hd d
          exact ⟨travel, loss, reason, by simp⟩
        · exact hd d'
      exact fit.trans ((State.Keeps.settleByLimits _ d (by simp)).trans (.driveDamper _ d))
  · exact .moveDamper fun _ => .unfitted

theorem State.Keeps.judgeDampers (s : State) : s.Keeps s.judgeDampers :=
  .foldl State.Keeps.judgeDamper _ s

/-- R174: the record judged from the stored bytes, and what the release samples and starts. -/
theorem State.Keeps.releaseStart (s : State) (strap hold : Bool) : s.Keeps (s.releaseStart strap hold) := by
  have windows : ∀ t : State, t.Keeps ((t.loadWindow .A).loadWindow .B) := fun t =>
    ((State.FanStep.loadWindow t .A).trans (.loadWindow _ .B)).keeps
  have start : ∀ t : State, t.fans = s.fans → t.dampers = s.dampers → t.view = s.view → t.zone = s.zone →
      t.forces = s.forces → t.rx = { s.rx with asm := .skipping } → t.line.failures = s.line.failures →
      t.store = { s.store with record := judgeRecord s.store.bytes } →
      t.monitor = { s.monitor with run := t.monitor.run } → s.Keeps t := by
    intro t fans dampers view zone forces rx line store monitor
    refine ⟨.of_blocks fans dampers (by simp [State.Ordered, view, zone]) (by simp [State.BlocksBounded, view, rx, line])
      (by simp [State.RecordSound, store]), ?_⟩
    unfold State.ModeLaws State.ModeSound State.TimersSound State.ForcesSound
    rw [zone, forces, monitor]
    exact id
  exact (start _ (by rfl) (by rfl) (by rfl) (by rfl) (by rfl) (by rfl) (by rfl) (by rfl) (by rfl)).trans (windows _)

theorem execResetRelease_ends {strap hold : Bool} {s t : State}
    (h : execResetRelease strap hold s = .next t) : s.Ends t := by
  unfold execResetRelease at h
  split at h <;> cases h
  · exact .refl s
  · exact .finish ((State.Keeps.releaseStart s strap hold).trans ((State.Keeps.judgeDampers _).trans (.tryLeaveHold _)))

theorem execHoldLineChange_ends {dt : Tu} {active : Bool} {s t : State}
    (h : execHoldLineChange dt active s = .next t) : s.Ends t := by
  have pin : ∀ u : State, u.Ends (u.setHold active) := fun u => .setPins u _
  have past := (State.Ends.elapse s dt).trans (pin _)
  unfold execHoldLineChange at h
  split at h
  · split at h <;> cases h
    · rename_i hm
      exact past.trans (.finish (.leaveHold _ (by simp [State.mayLeaveHold] at hm ⊢; tauto)))
    · exact past
  · cases h; exact pin s

/-! ### Reset -/

/-- R174: a part at its reset values has every law, whatever record is stored and whatever windows it loads. -/
theorem State.reset_safe (s : State) (fans : s.fans = { State.reset.fans with units := s.fans.units })
    (units : ∀ f, FanUnit.initial.Alike (s.fan f)) (dampers : s.dampers = State.reset.dampers)
    (zone : s.zone = State.reset.zone) (monitor : s.monitor = State.reset.monitor) (forces : s.forces = State.reset.forces)
    (view : s.view = State.reset.view) (share : s.share = State.reset.share) (rx : s.rx = State.reset.rx)
    (line : s.line = State.reset.line) (record : s.RecordSound) : s.Safe := by
  have closed : ∀ d, s.damper d = DamperUnit.unfitted := fun d => by
    rw [State.damper, dampers]; exact PerDamper.get_all _ d
  have stopped : ∀ f, (s.fan f).state = .stopped := fun f => (units f).state
  refine ⟨fun f hf => ?_, fun d => ?_, fun d hd => ?_, ?_, ?_, ?_, ?_, ?_, record, ⟨fun _ => ?_, fun f _ => ?_⟩, ?_⟩
  · simp [stopped] at hf
  · rw [closed]; exact .unfitted
  · simp [closed, DamperUnit.unfitted] at hd
  · simp [State.ModeSound, zone, monitor, State.reset]
  · simp [State.TimersSound, zone, monitor, State.reset]
  · intro _ _; rw [forces]; rfl
  · simp [State.Ordered, view, zone, State.reset]
  · refine (State.bounded_iff s).mpr ⟨?_, ?_, fun f => ?_⟩
    · simp [State.BlocksBounded, view, rx, line, State.reset]
    · rw [fans]; exact Nat.zero_le _
    · rw [(units f).pulses]; exact Nat.zero_le _
  · rw [fans]; rfl
  · exact ⟨(units f).low, (units f).judge⟩
  · exact ⟨by rw [share]; rfl, by rw [fans]; rfl⟩

theorem State.afterReset_safe (s : State) : s.afterReset.Safe := by
  refine State.reset_safe _ (by rfl) (fun f => ?_) (by rfl) (by rfl) (by rfl) (by rfl) (by rfl) (by rfl) (by rfl) (by rfl)
    (by rfl)
  cases f <;> exact ⟨rfl, rfl, rfl, rfl⟩

theorem execHardwareReset_ends {s t : State} (h : execHardwareReset s = .next t) : s.Ends t := by
  cases h
  obtain ⟨interlock, sound, follow, mode, timers, forces, ordered, bounded, record, rest, served⟩ := s.afterReset_safe
  rw [State.bounded_iff] at bounded
  exact ⟨⟨⟨fun _ => interlock, fun _ => sound, fun _ => ordered, fun _ => bounded.1, fun _ => bounded.2, fun _ => record,
    fun _ => rest⟩, fun _ => ⟨mode, timers, forces⟩⟩, fun _ => follow, fun _ => served⟩

/-! ### The Record Store -/

theorem State.Ends.startWrite (s : State) (bytes : List Byte) : s.Ends (s.startWrite bytes) :=
  ⟨⟨.of_blocks rfl rfl id id id, id⟩, fun h d => h d, id⟩

theorem execLoadRecord_ends {dt : Tu} {req : Request} {s t : State}
    (h : execLoadRecord dt req s = .next t) : s.Ends t := by
  refine .live (fun u => .request (fun v => ?_) u _ _ _) h
  split
  · exact .startWrite v _
  · exact .respond v _ _ _

theorem State.FanStep.dropUnfitted (s : State) (f : Fan) : s.FanStep (s.dropUnfitted f) := by
  have clear : ∀ t : State, t.FanStep (t.setFan f { t.fan f with cause := none, backoff := none, rundown := none }) :=
    fun t => .setFan_alike ⟨rfl, rfl, rfl, rfl⟩
  have stop : ∀ t : State, t.FanStep (t.moveFan f .stopped) := fun t => .moveFan_free rfl
  unfold State.dropUnfitted
  simp only
  split
  · exact .refl s
  · exact (State.FanStep.abortClaim s f).trans ((clear _).trans (stop _))

theorem State.FanStep.takeFans (s : State) : s.FanStep s.takeFans := by
  have list : s.FanStep { s with fans := { s.fans with starts := [] } } := .setStarts s [] fun _ => Nat.zero_le _
  exact (list.trans ((State.FanStep.dropUnfitted _ .A).trans (.dropUnfitted _ .B))).trans
    (((State.FanStep.loadWindow _ .A).trans (.loadWindow _ .B)).trans ((State.FanStep.fmaxChanged _).trans (.stage _)))

theorem State.Keeps.takeRecord (s : State) (w : WriteJob) : s.Keeps (s.takeRecord w) := by
  have store : s.Keeps (s.storeRecord w) := ⟨.of_blocks rfl rfl id id fun _ => rfl, id⟩
  have empty : ∀ t : State, t.Keeps t.emptyViewOrHold := by
    intro t
    unfold State.emptyViewOrHold
    split
    · exact .setView t _ id id rfl
    · exact .emptyView t
  have fume : ∀ t : State, t.Keeps t.reinitFume := fun t => (State.Ends.setFume t _).keeps.trans (.recompute _)
  have fifos : ∀ t : State, t.Keeps t.emptyFifos := fun t =>
    .setRx t _ (fun _ => Nat.zero_le _) (fun _ => Nat.zero_le _) id id
  exact store.trans ((empty _).trans ((State.Keeps.requestPass _).trans ((fume _).trans
    ((State.FanStep.takeFans _).keeps.trans ((State.Keeps.judgeDampers _).trans ((fifos _).trans (.tryLeaveHold _)))))))

theorem execRecordWriteComplete_ends {dt : Tu} {s t : State}
    (h : execRecordWriteComplete dt s = .next t) : s.Ends t := by
  refine .live (fun u => ?_) h
  split
  · exact .refl u
  · split
    · exact .finish ((State.Keeps.takeRecord u _).trans (State.Ends.respond _ _ _ _).keeps)
    · exact .refl u

/-! ### Every command -/

/-- What every command of the table does to the laws. -/
theorem exec_ends {c : Instr} {s t : State} (h : exec c s = .next t) : s.Ends t := by
  cases c with
  | hardwareReset => exact execHardwareReset_ends h
  | resetRelease => exact execResetRelease_ends h
  | holdLineChange => exact execHoldLineChange_ends h
  | rawInputChange => exact execRawInputChange_ends h
  | activation => exact execActivation_ends h
  | deactivation => exact execDeactivation_ends h
  | confirmationTimerExpiry => exact execConfirmationTimerExpiry_ends h
  | listenTimerExpiry => exact execListenTimerExpiry_ends h
  | purgeTimerExpiry => exact execPurgeTimerExpiry_ends h
  | sampleEvent => exact execSampleEvent_ends h
  | sweep => exact execSweep_ends h
  | digestZoneStatus => exact execDigestZoneStatus_ends h
  | digestFireAlarm => exact execDigestFireAlarm_ends h
  | digestFireReset => exact execDigestFireReset_ends h
  | passComplete => exact execPassComplete_ends h
  | setpointStep => exact execSetpointStep_ends h
  | backoffTimerExpiry => exact execBackoffTimerExpiry_ends h
  | startEntryExpiry => exact execStartEntryExpiry_ends h
  | rundownTimerExpiry => exact execRundownTimerExpiry_ends h
  | tachPulse => exact execTachPulse_ends h
  | provingWindowEnd => exact execProvingWindowEnd_ends h
  | limitChange => exact execLimitChange_ends h
  | travelTimerExpiry => exact execTravelTimerExpiry_ends h
  | limitLossTimerExpiry => exact execLimitLossTimerExpiry_ends h
  | lineIdle => exact execLineIdle_ends h
  | frameStart => exact execFrameStart_ends h
  | contentionLost => exact execContentionLost_ends h
  | bitError => exact execBitError_ends h
  | lineStuckDetected => exact execLineStuckDetected_ends h
  | lineStuckClear => exact execLineStuckClear_ends h
  | frameCondemned => exact execFrameCondemned_ends h
  | frameArrival => exact execFrameArrival_ends h
  | heartbeatExpiry => exact execHeartbeatExpiry_ends h
  | spacingTimerExpiry => exact execSpacingTimerExpiry_ends h
  | probeInstant => exact execProbeInstant_ends h
  | serviceTimeout => exact execServiceTimeout_ends h
  | identify => exact execIdentify_ends h
  | readState => exact execReadState_ends h
  | readPeer => exact execReadPeer_ends h
  | readStarts => exact execReadStarts_ends h
  | readPoints => exact execReadPoints_ends h
  | modifyPoints => exact execModifyPoints_ends h
  | releasePoints => exact execReleasePoints_ends h
  | fireReset => exact execFireReset_ends h
  | clearFaults => exact execClearFaults_ends h
  | loadRecord => exact execLoadRecord_ends h
  | readRecord => exact execReadRecord_ends h
  | recordWriteComplete => exact execRecordWriteComplete_ends h
  | anothersStartBit => exact execAnothersStartBit_ends h
  | responseSent => exact execResponseSent_ends h
  | serviceFramingError => exact execServiceFramingError_ends h
  | unknownCommand => exact execUnknownCommand_ends h

/-- A step is its front command's, and the queue is no part of the laws. -/
theorem step_ends {s t : State} (h : step s = .next t) : s.Ends t := by
  unfold step at h
  split at h
  · cases h; exact .refl s
  · rename_i c rest _
    have taken : s.Ends { s with pending := rest } := .of_eq rfl rfl rfl rfl rfl rfl rfl rfl rfl rfl
    exact taken.trans (exec_ends h)

theorem foldl_add_replicate (x b : Byte) (n : Nat) :
    (List.replicate n b).foldl (· + ·) x = x + BitVec.ofNat 8 n * b := by
  induction n generalizing x with
  | zero => simp
  | succ n ih =>
    rw [List.replicate_succ, List.foldl_cons, ih, BitVec.ofNat_add, BitVec.add_mul, BitVec.add_assoc,
      BitVec.add_comm b]
    simp

/-- R172: bytes that do not sum to 0 are no record. -/
theorem judgeRecord_of_sum {b : List Byte} (h : sumChars b ≠ 0) : judgeRecord b = none := by
  unfold judgeRecord
  rw [if_neg]
  intro ok
  simp only [recordOk, Bool.and_eq_true, decide_eq_true_eq] at ok
  tauto

/-- R171, R172: an erased store holds no record. -/
theorem judgeRecord_erased : judgeRecord (List.replicate 90 255) = none :=
  judgeRecord_of_sum (by rw [sumChars, foldl_add_replicate]; decide)

/-- Settles O55: the reset values have every law, and an erased store is judged to hold no record. -/
theorem resetIsSafe : Obligations.ResetIsSafe :=
  State.reset_safe _ rfl (fun f => by cases f <;> exact ⟨rfl, rfl, rfl, rfl⟩) rfl rfl rfl rfl rfl rfl rfl rfl
    judgeRecord_erased.symm

/-- Settles O56: every command's blocks keep the fans that need an OPEN damper behind one. -/
theorem everyStepKeepsTheInterlock : Obligations.EveryStepKeepsTheInterlock :=
  fun _ _ interlock h => (step_ends h).keeps.interlock interlock

/-- Settles O57: by what every command does to the laws (`step_ends`), the three laws of the mode together. -/
theorem everyStepKeepsTheModeLaws : Obligations.EveryStepKeepsTheModeLaws :=
  fun _ _ mode timers forces h => (step_ends h).keeps.modes ⟨mode, timers, forces⟩

/-- Settles O58: dampers move by sound records alone, and every event that gives a new command ends with the answers. -/
theorem everyStepKeepsTheDamperLaws : Obligations.EveryStepKeepsTheDamperLaws :=
  fun _ _ sound follow h => ⟨(step_ends h).keeps.dampers sound, (step_ends h).follow follow⟩

/-- Settles O59: by `step_ends`, with the bounds of the Fan Controller apart from those of the other blocks. -/
theorem everyStepKeepsTheListLaws : Obligations.EveryStepKeepsTheListLaws := by
  intro s t ordered bounded record rest served h
  have ends := step_ends h
  rw [State.bounded_iff] at bounded
  exact ⟨ends.keeps.ordered ordered, t.bounded_iff.mpr ⟨ends.keeps.blocks bounded.1, ends.keeps.fans bounded.2⟩,
    ends.keeps.record record, ends.keeps.rest rest, ends.served served⟩

end Sys2Proof.Machine
end

section
/-! Every command answers (R118, log entry 5), and none of them touches the queue. Each of the blocks' own operations leaves
the queue as it stands, one lemma each; the shared operations have theirs in their frames (Laws/Frames.lean). -/

namespace Sys2Proof.Machine

/-! ### The Damper and Fan Controllers -/

@[simp] theorem State.answerLimit_pending (s : State) (d : DamperId) (w : LimitId) (active : Bool) :
    (s.answerLimit d w active).pending = s.pending := by
  unfold State.answerLimit
  (repeat' split) <;> simp

@[simp] theorem State.countPulse_pending (s : State) (f : Fan) : (s.countPulse f).pending = s.pending := by
  unfold State.countPulse
  split <;> simp

@[simp] theorem State.judgeWindow_pending (s : State) (f : Fan) : (s.judgeWindow f).pending = s.pending := by
  unfold State.judgeWindow
  (repeat' split) <;> simp

@[simp] theorem State.renewWindow_pending (s : State) (f : Fan) : (s.renewWindow f).pending = s.pending := by
  simp [State.renewWindow]

@[simp] theorem State.loadWindow_pending (s : State) (f : Fan) : (s.loadWindow f).pending = s.pending := by
  simp [State.loadWindow]

@[simp] theorem State.judgeDamper_pending (s : State) (d : DamperId) : (s.judgeDamper d).pending = s.pending := by
  unfold State.judgeDamper
  (repeat' split) <;> simp

@[simp] theorem State.judgeDampers_pending (s : State) : s.judgeDampers.pending = s.pending := by
  simp [State.judgeDampers, DamperId.all]

/-! ### The Fire Point Monitor and the hold line -/

@[simp] theorem State.declareOnce_pending (s : State) (c : FireCause) : (s.declareOnce c).pending = s.pending := by
  unfold State.declareOnce
  split <;> simp

@[simp] theorem State.pointActivated_pending (s : State) (p : Ix4) : (s.pointActivated p).pending = s.pending := by
  unfold State.pointActivated State.smokeActivated State.setLatch
  (repeat' split) <;> simp

@[simp] theorem State.resetRequest_pending (s : State) (src : ResetSource) :
    (s.resetRequest src).pending = s.pending := by
  unfold State.resetRequest
  split <;> simp

@[simp] theorem State.afterActivation_pending (s : State) (i : InputId) : (s.afterActivation i).pending = s.pending := by
  unfold State.afterActivation
  (repeat' split) <;> simp

@[simp] theorem State.afterDeactivation_pending (s : State) (i : InputId) :
    (s.afterDeactivation i).pending = s.pending := by
  unfold State.afterDeactivation
  (repeat' split) <;> simp

@[simp] theorem State.tryLeaveHold_pending (s : State) : s.tryLeaveHold.pending = s.pending := by
  unfold State.tryLeaveHold
  split <;> simp

/-! ### The Peer View -/

@[simp] theorem State.popFrame_pending (s : State) : s.popFrame.pending = s.pending := by
  unfold State.popFrame
  split <;> rfl

@[simp] theorem State.updateEntry_pending (s : State) (old n : PeerEntry) :
    (s.updateEntry old n).pending = s.pending := by
  simp [State.updateEntry, State.ite_fields, State.setEntries]

@[simp] theorem State.statusEvent_pending (s : State) (n : PeerEntry) : (s.statusEvent n).pending = s.pending := by
  simp [State.statusEvent, State.ite_fields]

@[simp] theorem State.alarmEvent_pending (s : State) (n : PeerEntry) : (s.alarmEvent n).pending = s.pending := by
  simp [State.alarmEvent, State.ite_fields]

@[simp] theorem State.takeStatus_pending (s : State) (e : FifoEntry) (cls : Byte) (demand : BitVec 16)
    (flags : PeerFlags) (period : Byte) : (s.takeStatus e cls demand flags period).pending = s.pending := by
  unfold State.takeStatus State.refuseNewcomer State.countError State.setEntries
  simp only
  (repeat' split) <;> simp

@[simp] theorem State.takeAlarm_pending (s : State) (e : FifoEntry) (demand : BitVec 16) :
    (s.takeAlarm e demand).pending = s.pending := by
  unfold State.takeAlarm State.refuseNewcomer State.countError State.setEntries
  simp only
  (repeat' split) <;> simp

@[simp] theorem State.takeReset_pending (s : State) (e : FifoEntry) : (s.takeReset e).pending = s.pending := by
  unfold State.takeReset
  (repeat' split) <;> simp

@[simp] theorem State.sweepNow_pending (s : State) : s.sweepNow.pending = s.pending := by
  simp [State.sweepNow, State.ite_fields, State.setEntries]

@[simp] theorem State.emptyView_pending (s : State) : s.emptyView.pending = s.pending := by
  simp [State.emptyView, State.ite_fields]

/-! ### The zone line -/

@[simp] theorem State.beginAttempt_pending (s : State) (a : Attempt) : (s.beginAttempt a).pending = s.pending := by
  unfold State.beginAttempt State.contentStarts State.claimStarts State.statusStarts
  cases a.content <;> simp

@[simp] theorem State.urgentReturns_pending (s : State) (u : Urgent) : (s.urgentReturns u).pending = s.pending := by
  unfold State.urgentReturns
  split <;> simp

@[simp] theorem State.abandonedEnds_pending (s : State) (f : Fan) : (s.abandonedEnds f).pending = s.pending := by
  unfold State.abandonedEnds
  (repeat' split) <;> simp

@[simp] theorem State.claimLeavesLine_pending (s : State) (f : Fan) : (s.claimLeavesLine f).pending = s.pending := by
  simp [State.claimLeavesLine]

@[simp] theorem State.claimWaitsAgain_pending (s : State) (f : Fan) : (s.claimWaitsAgain f).pending = s.pending := by
  simp [State.claimWaitsAgain]

@[simp] theorem State.claimLost_pending (s : State) (f : Fan) : (s.claimLost f).pending = s.pending := by
  simp [State.claimLost, State.ite_fields, State.dropSlot]

@[simp] theorem State.claimFails_pending (s : State) (f : Fan) : (s.claimFails f).pending = s.pending := by
  simp [State.claimFails, State.ite_fields, State.dropSlot]

@[simp] theorem State.loseContention_pending (s : State) (a : Attempt) : (s.loseContention a).pending = s.pending := by
  unfold State.loseContention
  simp only
  (repeat' split) <;> simp [State.offerAgain, State.releaseLine]

@[simp] theorem State.contentFails_pending (s : State) (a : Attempt) (isolated : Bool) :
    (s.contentFails a isolated).pending = s.pending := by
  unfold State.contentFails
  cases a.content <;> simp [State.ite_fields, State.statusFails]

@[simp] theorem State.failAttempt_pending (s : State) (a : Attempt) : (s.failAttempt a).pending = s.pending := by
  unfold State.failAttempt State.isolationAfterError
  (repeat' split) <;> simp [State.countFailure, State.releaseLine]

@[simp] theorem State.claimEchoes_pending (s : State) (f : Fan) (fire : Bool) :
    (s.claimEchoes f fire).pending = s.pending := by
  simp [State.claimEchoes, State.ite_fields, State.dropSlot]

@[simp] theorem State.completeAttempt_pending (s : State) (a : Attempt) :
    (s.completeAttempt a).pending = s.pending := by
  unfold State.completeAttempt State.contentSent
  cases a.content <;> simp [State.ite_fields, State.endIsolation, State.statusSent]

@[simp] theorem State.takeHeard_pending (s : State) (h : Heard) : (s.takeHeard h).pending = s.pending := by
  unfold State.takeHeard State.heardClaim State.countError
  (repeat' split) <;> simp

@[simp] theorem State.condemnFrame_pending (s : State) : s.condemnFrame.pending = s.pending := by
  unfold State.condemnFrame
  split <;> rfl

@[simp] theorem State.frameCompletes_pending (s : State) (chars : List Byte) :
    (s.frameCompletes chars).pending = s.pending := by
  unfold State.frameCompletes State.arrive
  (repeat' split) <;> simp

/-! ### The Service Port and the Record Store -/

/-- R166: the queue after a request, where the command itself leaves it. -/
theorem State.request_pending (s : State) (code : Byte) (n : Nat) (req : Request) (act : State → State)
    (h : ∀ t, (act t).pending = t.pending) : (s.request code n req act).pending = s.pending := by
  simp [State.request, State.ite_fields, h, State.startSkipping]

@[simp] theorem State.endOfGap_pending (s : State) : s.endOfGap.pending = s.pending := by
  unfold State.endOfGap State.discardRequest
  (repeat' split) <;> simp

@[simp] theorem State.framingError_pending (s : State) : s.framingError.pending = s.pending := by
  unfold State.framingError State.discardRequest
  (repeat' split) <;> simp

@[simp] theorem State.settleStuck_pending (s : State) (d : DamperId) : (s.settleStuck d).pending = s.pending := by
  simp [State.settleStuck, State.ite_fields]

@[simp] theorem State.returnFan_pending (s : State) (f : Fan) : (s.returnFan f).pending = s.pending := by
  simp [State.returnFan, State.ite_fields]

@[simp] theorem State.returnFans_pending (s : State) : s.returnFans.pending = s.pending := by
  simp [State.returnFans, State.availabilityFrom, State.ite_fields]

@[simp] theorem State.stickAgain_pending (s : State) (f : Fan) : (s.stickAgain f).pending = s.pending := by
  simp [State.stickAgain, State.ite_fields]

@[simp] theorem State.clearAll_pending (s : State) : s.clearAll.pending = s.pending := by
  simp [State.clearAll, State.clearDuplicate, DamperId.all]

@[simp] theorem State.dropUnfitted_pending (s : State) (f : Fan) : (s.dropUnfitted f).pending = s.pending := by
  simp [State.dropUnfitted, State.ite_fields]

@[simp] theorem State.takeFans_pending (s : State) : s.takeFans.pending = s.pending := by
  simp [State.takeFans]

@[simp] theorem State.emptyViewOrHold_pending (s : State) : s.emptyViewOrHold.pending = s.pending := by
  simp [State.emptyViewOrHold, State.ite_fields]

@[simp] theorem State.takeRecord_pending (s : State) (w : WriteJob) : (s.takeRecord w).pending = s.pending := by
  simp [State.takeRecord, State.emptyFifos, State.reinitFume, State.storeRecord]

/-! ### The Share Computer -/

@[simp] theorem State.publish_pending (s : State) (r : Results) : (s.publish r).pending = s.pending := by
  simp [State.publish, State.ite_fields]

@[simp] theorem State.unfreeze_pending (s : State) : s.unfreeze.pending = s.pending := by
  simp [State.unfreeze, State.ite_fields]

/-! ### Every command -/

/-- A live command answers, and leaves the queue where its effect does. -/
theorem live_completes {dt : Tu} {s : State} {f : State → State} (h : ∀ u, (f u).pending = u.pending) :
    ∃ t, live dt s f = .next t ∧ t.pending = s.pending := by
  unfold live
  split
  · exact ⟨_, rfl, by simp [h]⟩
  · exact ⟨s, rfl, rfl⟩

/-- A request is answered, and leaves the queue where the command does. -/
theorem live_request_completes {dt : Tu} {s : State} {code : Byte} {n : Nat} {req : Request} {act : State → State}
    (h : ∀ u, (act u).pending = u.pending) :
    ∃ t, live dt s (fun s => s.request code n req act) = .next t ∧ t.pending = s.pending :=
  live_completes fun u => u.request_pending code n req act h

/-- Settles O2, command by command: the outcome of each is a next state, and its queue is read off the lemmas above. -/
theorem everyCommandCompletes : Obligations.EveryCommandCompletes := by
  intro c s
  cases c with
  | hardwareReset => exact ⟨_, rfl, by simp [State.afterReset]⟩
  | resetRelease strap hold =>
    show ∃ t, execResetRelease strap hold s = .next t ∧ _
    unfold execResetRelease
    split
    · exact ⟨s, rfl, rfl⟩
    · exact ⟨_, rfl, by simp [State.releaseStart]⟩
  | holdLineChange dt active =>
    show ∃ t, execHoldLineChange dt active s = .next t ∧ _
    unfold execHoldLineChange
    (repeat' split) <;> exact ⟨_, rfl, by simp [State.setHold]⟩
  | rawInputChange dt i active =>
    show ∃ t, execRawInputChange dt i active s = .next t ∧ _
    unfold execRawInputChange
    split <;> exact ⟨_, rfl, by simp [State.setRaw]⟩
  | limitChange dt d w active =>
    show ∃ t, execLimitChange dt d w active s = .next t ∧ _
    unfold execLimitChange
    (repeat' split) <;> exact ⟨_, rfl, by simp [State.setLimit]⟩
  | tachPulse dt f =>
    show ∃ t, execTachPulse dt f s = .next t ∧ _
    unfold execTachPulse
    split <;> exact ⟨_, rfl, by simp [State.tachHigh]⟩
  | activation =>
    simp only [exec, execActivation]
    exact live_completes fun u => by split <;> simp [State.setFiltered]
  | deactivation =>
    simp only [exec, execDeactivation]
    exact live_completes fun u => by split <;> simp [State.setFiltered]
  | confirmationTimerExpiry =>
    simp only [exec, execConfirmationTimerExpiry]
    exact live_completes fun u => by split <;> simp
  | listenTimerExpiry =>
    simp only [exec, execListenTimerExpiry]
    exact live_completes fun u => by split <;> simp
  | purgeTimerExpiry =>
    simp only [exec, execPurgeTimerExpiry]
    exact live_completes fun u => by split <;> simp
  | sampleEvent =>
    simp only [exec, execSampleEvent]
    exact live_completes fun u => by (repeat' split) <;> simp [State.sample, State.rearmSample]
  | sweep =>
    simp only [exec, execSweep]
    exact live_completes fun u => by (repeat' split) <;> simp
  | digestZoneStatus =>
    simp only [exec, execDigestZoneStatus]
    exact live_completes fun u => by split <;> simp
  | digestFireAlarm =>
    simp only [exec, execDigestFireAlarm]
    exact live_completes fun u => by split <;> simp
  | digestFireReset =>
    simp only [exec, execDigestFireReset]
    exact live_completes fun u => by split <;> simp
  | passComplete =>
    simp only [exec, execPassComplete]
    exact live_completes fun u => by (repeat' split) <;> simp [State.gatherAgain, State.handTarget]
  | setpointStep =>
    simp only [exec, execSetpointStep]
    exact live_completes fun u => by split <;> simp
  | backoffTimerExpiry =>
    simp only [exec, execBackoffTimerExpiry]
    exact live_completes fun u => by split <;> simp
  | startEntryExpiry =>
    simp only [exec, execStartEntryExpiry]
    exact live_completes fun u => by (repeat' split) <;> simp
  | rundownTimerExpiry =>
    simp only [exec, execRundownTimerExpiry]
    exact live_completes fun u => by split <;> simp
  | provingWindowEnd =>
    simp only [exec, execProvingWindowEnd]
    exact live_completes fun u => by split <;> simp
  | travelTimerExpiry =>
    simp only [exec, execTravelTimerExpiry]
    exact live_completes fun u => by split <;> simp
  | limitLossTimerExpiry =>
    simp only [exec, execLimitLossTimerExpiry]
    exact live_completes fun u => by split <;> simp
  | lineIdle =>
    simp only [exec, execLineIdle]
    exact live_completes fun u => by split <;> rfl
  | frameStart =>
    simp only [exec, execFrameStart]
    exact live_completes fun u => by (repeat' split) <;> simp
  | contentionLost =>
    simp only [exec, execContentionLost]
    exact live_completes fun u => by split <;> simp
  | bitError =>
    simp only [exec, execBitError]
    exact live_completes fun u => by split <;> simp
  | lineStuckDetected =>
    simp only [exec, execLineStuckDetected]
    exact live_completes fun u => by simp
  | lineStuckClear =>
    simp only [exec, execLineStuckClear]
    exact live_completes fun u => by split <;> rfl
  | frameCondemned =>
    simp only [exec, execFrameCondemned]
    exact live_completes fun u => by split <;> simp
  | frameArrival =>
    simp only [exec, execFrameArrival]
    exact live_completes fun u => by split <;> simp
  | heartbeatExpiry =>
    simp only [exec, execHeartbeatExpiry]
    exact live_completes fun u => by split <;> simp
  | spacingTimerExpiry =>
    simp only [exec, execSpacingTimerExpiry]
    exact live_completes fun u => by split <;> rfl
  | probeInstant =>
    simp only [exec, execProbeInstant]
    exact live_completes fun u => by split <;> rfl
  | serviceTimeout =>
    simp only [exec, execServiceTimeout]
    exact live_completes fun u => by
      split <;> simp [State.feedPort, State.charBeforeGap, State.ite_fields]
  | identify =>
    simp only [exec, execIdentify]
    exact live_request_completes fun u => by simp
  | readState =>
    simp only [exec, execReadState]
    exact live_request_completes fun u => by simp
  | readPeer =>
    simp only [exec, execReadPeer]
    exact live_request_completes fun u => by split <;> simp
  | readStarts =>
    simp only [exec, execReadStarts]
    exact live_request_completes fun u => by simp
  | readPoints =>
    simp only [exec, execReadPoints]
    exact live_completes fun u => State.request_pending _ _ _ _ _ fun t => by split <;> simp
  | modifyPoints =>
    simp only [exec, execModifyPoints]
    exact live_request_completes fun u => by split <;> simp [State.setForces]
  | releasePoints =>
    simp only [exec, execReleasePoints]
    exact live_request_completes fun u => by simp [State.releaseForces]
  | fireReset =>
    simp only [exec, execFireReset]
    exact live_request_completes fun u => by split <;> simp
  | clearFaults =>
    simp only [exec, execClearFaults]
    exact live_request_completes fun u => by simp
  | loadRecord =>
    simp only [exec, execLoadRecord]
    exact live_request_completes fun u => by split <;> simp [State.startWrite]
  | readRecord =>
    simp only [exec, execReadRecord]
    exact live_request_completes fun u => by simp
  | recordWriteComplete =>
    simp only [exec, execRecordWriteComplete]
    exact live_completes fun u => by (repeat' split) <;> simp
  | anothersStartBit =>
    simp only [exec, execAnothersStartBit]
    exact live_completes fun u => by split <;> rfl
  | responseSent =>
    simp only [exec, execResponseSent]
    exact live_completes fun u => by split <;> rfl
  | serviceFramingError =>
    simp only [exec, execServiceFramingError]
    exact live_completes fun u => by simp [State.feedPort]
  | unknownCommand =>
    simp only [exec, execUnknownCommand]
    exact live_completes fun u => by
      split
      · rfl
      · exact State.request_pending _ _ _ _ _ fun t => by simp

end Sys2Proof.Machine
end

section
/-! The queue, the reset values, the input filter and the transfer dampers' commands. -/

namespace Sys2Proof.Machine

/-- Settles O1: `step` is a match on the queue. -/
theorem stepRunsTheFrontCommand : Obligations.StepRunsTheFrontCommand :=
  ⟨fun _ _ _ => rfl, fun s h => by rw [step, h]⟩

/-- Settles O4, field by field; the fans and dampers are equal records in every place. -/
theorem resetValues : Obligations.ResetValues := by
  unfold Obligations.ResetValues
  have fans : ∀ f, State.reset.fan f = FanUnit.initial := fun f => by cases f <;> rfl
  have dampers : ∀ d, State.reset.damper d = DamperUnit.unfitted := fun d => PerDamper.get_all _ d
  have forces : ∀ d, State.reset.forces.dampers.get d = Force.clear := fun d => PerDamper.get_all _ d
  refine ⟨rfl, rfl, rfl, rfl, rfl, rfl, rfl, rfl, rfl, rfl, rfl, rfl, rfl, rfl, rfl, rfl, rfl, rfl, fans, rfl, rfl, rfl,
    rfl, dampers, rfl, rfl, rfl, rfl, rfl, forces, rfl, rfl, rfl, rfl, rfl, rfl⟩

/-- Settles O5: the reset values, with both fans' windows loaded from the record judged. -/
theorem hardwareResetRestores : Obligations.HardwareResetRestores := by
  rintro s r rfl
  show execHardwareReset s = _
  simp [execHardwareReset, State.afterReset, State.loadWindow, State.setFan, State.fan, State.fanFitted, State.cfg,
    State.reset, PerFan.set, PerFan.get, PerFan.all, FanUnit.initial]
  exact ⟨if_congr decide_eq_true_iff rfl rfl, if_congr decide_eq_true_iff rfl rfl⟩

/-- Settles O8: the run of the input alone, by the value that the filter stands at. -/
theorem rawChangeRunsTheFilter : Obligations.RawChangeRunsTheFilter := by
  rintro s u dt i active h rfl
  show execRawInputChange dt i active s = _
  have run : (s.elapse dt).runAfter i active =
      if active = (s.elapse dt).monitor.filtered.get i then none
      else some (((s.elapse dt).monitor.run.get i).getD (s.elapse dt).tu) := by
    unfold State.runAfter
    split
    · rfl
    · cases (s.elapse dt).monitor.run.get i <;> rfl
  rw [execRawInputChange, if_pos h, run]
  simp [State.setRaw]

/-- R18, R83: a fitted transfer damper that no force holds is commanded by the zone and by the filter index it faces. -/
theorem State.effectiveCommand_td {s : State} {k : Ix4} (fitted : (s.damper (.td k)).fitted = true)
    (free : (s.forces.dampers.get (.td k)).flag = false) :
    s.effectiveCommand (.td k) = (s.transferOpen && !s.facingClosed k) := by
  simp [State.effectiveCommand, State.ownerCommand, fitted, free]

/-- R109: no transfer damper is commanded open by a zone that commands them closed, unless a force holds it. -/
theorem State.effectiveCommand_td_of_closed {s : State} {k : Ix4} (shut : s.transferOpen = false)
    (free : (s.forces.dampers.get (.td k)).flag = false) : s.effectiveCommand (.td k) = false := by
  simp [State.effectiveCommand, State.ownerCommand, shut, free]

theorem Forces.clear_flag (d : DamperId) : (Forces.clear.dampers.get d).flag = false := by
  simp [Forces.clear, Force.clear]

theorem State.facingClosed_iff (s : State) (k : Ix4) :
    s.facingClosed k = true ↔ ∃ h, s.cfg.facing.get k = some h ∧ s.preAlarmHit h = true := by
  unfold State.facingClosed
  split <;> simp [*]

/-- Settles O16: by the zone's transfer command in each mode; CONTAIN and FIRE hold no force. -/
theorem fireModesCloseTransferDampers : Obligations.FireModesCloseTransferDampers := by
  intro s k forces
  refine ⟨fun hm => ?_, fun hm free => ?_, fun hm hd free => ?_, fun hh hc hf hd fitted free => ?_⟩
  · have clear : s.forces = Forces.clear := forces (by aesop) (by aesop)
    refine State.effectiveCommand_td_of_closed ?_ (by rw [clear, Forces.clear_flag])
    rcases hm with hm | hm <;> simp [State.transferOpen, hm]
  · exact State.effectiveCommand_td_of_closed (by simp [State.transferOpen, hm]) free
  · refine State.effectiveCommand_td_of_closed ?_ free
    rcases hm with hm | hm | hm <;> simp [State.transferOpen, hm, hd]
  · have opened : s.transferOpen = true := by
      unfold State.transferOpen
      cases hm : s.zone.mode <;> simp_all
    rw [State.effectiveCommand_td fitted free, opened, ← State.facingClosed_iff]
    simp

end Sys2Proof.Machine
end

section
/-! The Fan Controller: the setpoint and the speed outputs, and the timers of claims and start entries. -/

namespace Sys2Proof.Machine

theorem State.atStep_iff (s : State) : s.atStep = true ↔ s.tu.toNat % 1000 = 0 :=
  decide_eq_true_iff

theorem FanState.turns_iff (st : FanState) : st.turns = true ↔ st = .starting ∨ st = .running := by
  cases st <;> simp [FanState.turns]

theorem State.runOutput_iff (s : State) (f : Fan) :
    s.runOutput f = true ↔ (s.fan f).state = .starting ∨ (s.fan f).state = .running := FanState.turns_iff _

theorem State.anyTurning_iff (s : State) : s.anyTurning = true ↔ ∃ f, s.runOutput f = true := by
  simp only [State.anyTurning, Bool.or_eq_true]
  refine ⟨fun h => h.elim (⟨.A, ·⟩) (⟨.B, ·⟩), fun ⟨f, h⟩ => ?_⟩
  cases f
  · exact .inl h
  · exact .inr h

theorem Mode.usesFireProfile_iff (m : Mode) :
    m.usesFireProfile = true ↔ m = .contain ∨ m = .fire ∨ m = .purge := by
  cases m <;> simp [Mode.usesFireProfile]

/-- R81: the profile in use, by the mode. -/
theorem State.profile_eq (s : State) :
    s.profile = if s.zone.mode = .contain ∨ s.zone.mode = .fire ∨ s.zone.mode = .purge then s.cfg.fire
      else s.cfg.normal := by
  simp only [State.profile, Mode.usesFireProfile_iff]

/-- R90: a step ends at the target where it is within reach, and moves by d toward it elsewhere. -/
theorem rampStep_cases (s target d : Nat) :
    (s ≤ target + d → target ≤ s + d → rampStep s target d = target) ∧
    (s + d < target → rampStep s target d = s + d) ∧ (target + d < s → rampStep s target d + d = s) := by
  unfold rampStep
  refine ⟨fun _ _ => ?_, fun _ => ?_, fun _ => ?_⟩ <;> split_ifs <;> omega

/-- Settles O29: `rampStep_cases` at each step while a fan turns, and the outputs by the profile in use. -/
theorem setpointAndSpeedFollowTheTarget : Obligations.SetpointAndSpeedFollowTheTarget := by
  refine ⟨fun s u dt d h hu hd => ⟨fun ht hf => ?_, fun hn => ?_⟩, fun s f m hm => ⟨s.runOutput_iff f, ?_, ?_, ?_⟩⟩
  · have ramp : u.profile.ramp / 10 = d := by
      rw [u.profile_eq, ← hd]; split <;> rfl
    have turning : u.anyTurning = true := u.anyTurning_iff.mpr (hf.imp fun f => (u.runOutput_iff f).mpr)
    refine ⟨rampStep u.fans.setpoint u.fans.target d, ?_, rampStep_cases _ _ _⟩
    simp only [exec, execSetpointStep, live_released _ _ _ h, hu, u.atStep_iff.mpr ht, turning, ramp, Bool.and_self,
      if_true]
  · have rest : ¬ (u.atStep && u.anyTurning) = true := by
      rw [Bool.and_eq_true, u.atStep_iff, u.anyTurning_iff]
      rintro ⟨ht, f, hf⟩
      rw [u.runOutput_iff] at hf
      exact hn.elim (· ht) fun hn => hf.elim (hn f).1 (hn f).2
    simp only [exec, execSetpointStep, live_released _ _ _ h, hu, if_neg rest]
  all_goals
    have least : s.profile.minSpeed = m := by rw [s.profile_eq, ← hm]; split <;> rfl
  · intro hr hn ho
    rw [State.speedOutput, if_pos hr, if_pos ⟨hn, ho⟩, least]
  · intro hr hn
    rw [State.speedOutput, if_pos hr, if_neg (by aesop), least]
  · intro hr
    rw [State.speedOutput, if_neg (by simp [hr])]

end Sys2Proof.Machine
end

section
/-! The Start List and own claims (R98 to R103): the whole state that a claim taken into the list, or decided by it, leaves. -/

namespace Sys2Proof.Machine

theorem ClaimEntry.sameClaim_eq (e y : ClaimEntry) :
    e.sameClaim y = (decide (y.origin = e.origin) && decide (y.fan = e.fan)) := by
  simp [ClaimEntry.sameClaim, eq_comm]

/-- R99, step 1: the Start List without the entry of a claim's origin and fan. -/
def State.startsWithout (s : State) (e : ClaimEntry) : List ClaimEntry := s.fans.starts.filter fun x => !e.sameClaim x

theorem State.startsWithout_eq (s : State) (e : ClaimEntry) :
    s.startsWithout e = s.fans.starts.filter fun y => !(decide (y.origin = e.origin) && decide (y.fan = e.fan)) := by
  simp only [State.startsWithout, ClaimEntry.sameClaim_eq]

/-- A claim whose entry, as it leaves the list, ends no own start window (R100). -/
def State.EndsNoWindow (s : State) (e : ClaimEntry) : Prop := ¬ (e.origin = s.cfg.station ∧ (s.fan e.fan).state = .starting)

/-- R104, R105: a fan that passes to a state in which it turns, where s is not held. -/
theorem State.moveFan_of_turns (s : State) (f : Fan) {st : FanState} (h : st.turns = true) :
    s.moveFan f st = s.setFan f ((s.fan f).enter st) := by
  have turning : (s.setFan f ((s.fan f).enter st)).anyTurning = true :=
    (State.anyTurning_iff _).mpr ⟨f, by simp [State.runOutput, h]⟩
  rw [State.moveFan, State.holdSetpoint, if_pos turning]

@[simp] theorem FanUnit.enter_running (u : FanUnit) : u.enter .running = { u with state := .running } := by
  simp [FanUnit.enter]

/-- R99, step 1. -/
theorem State.dropSame_of_quiet {s : State} {e : ClaimEntry} (quiet : s.EndsNoWindow e) :
    s.dropSame e = { s with fans := { s.fans with starts := s.startsWithout e } } := by
  unfold State.dropSame
  split
  · exact if_neg quiet
  · rename_i h
    have all : s.startsWithout e = s.fans.starts := by
      refine List.filter_eq_self.mpr fun x hx => ?_
      simp only [List.any_eq_true, not_exists, not_and] at h
      simpa using h x hx
    rw [all]

@[simp] theorem State.dropSame_starts (s : State) (e : ClaimEntry) : (s.dropSame e).fans.starts = s.startsWithout e := by
  by_cases quiet : s.EndsNoWindow e
  · rw [State.dropSame_of_quiet quiet]
  · unfold State.dropSame
    split
    · unfold State.handRemoval
      split <;> simp [State.startsWithout]
    · rename_i h
      refine (List.filter_eq_self.mpr fun x hx => ?_).symm
      simp only [List.any_eq_true, not_exists, not_and] at h
      simpa using h x hx

/-- R99, steps 2 and 3. -/
theorem State.entryAdmitted_eq (s : State) (e : ClaimEntry) :
    s.entryAdmitted e = (e.fire || decide ((s.startsWithout e).length < s.cfg.startLimit)) := by
  rw [State.entryAdmitted, State.admits, State.dropSame_starts, State.cfg_of_store (s := s) (by simp)]

theorem State.entryAdmitted_iff (s : State) (e : ClaimEntry) :
    s.entryAdmitted e = true ↔ e.fire = true ∨ (s.startsWithout e).length < s.cfg.startLimit := by
  rw [State.entryAdmitted_eq, Bool.or_eq_true, decide_eq_true_eq]

/-- R99, step 4: a claim joins a list with room. -/
theorem State.appendClaim_of_room {s : State} {e : ClaimEntry} (room : s.fans.starts.length < 16) :
    s.appendClaim e = { s with fans := { s.fans with starts := s.fans.starts ++ [e] } } := by
  unfold State.appendClaim
  split
  · rename_i h; rw [h]; rfl
  · rename_i x l h
    rw [h, List.length_cons] at room
    have small : l.length + 1 < Config.startListCapacity := room
    rw [if_pos small, h]

/-- R99, step 4: a full list drops its head. -/
theorem State.appendClaim_of_full {s : State} {e x : ClaimEntry} {l : List ClaimEntry} (starts : s.fans.starts = x :: l)
    (full : 16 ≤ s.fans.starts.length) :
    s.appendClaim e = State.handRemoval { s with fans := { s.fans with starts := l ++ [e] } } x := by
  have big : ¬ l.length + 1 < Config.startListCapacity := by
    rw [starts, List.length_cons] at full
    exact Nat.not_lt.mpr full
  simp only [State.appendClaim, starts, if_neg big]

/-- R99: a claim that is admitted to a list with room, and ends no window. -/
theorem State.takeEntry_of_admitted {s : State} {e : ClaimEntry} (quiet : s.EndsNoWindow e)
    (yes : s.entryAdmitted e = true) (room : (s.startsWithout e).length < 16) :
    s.takeEntry e = { s with fans := { s.fans with starts := s.startsWithout e ++ [e] } } := by
  rw [State.takeEntry, ← State.entryAdmitted, if_pos yes, State.appendClaim_of_room (by simpa using room), State.dropSame_of_quiet quiet]

/-- R99: a claim that is denied, and ends no window. -/
theorem State.takeEntry_of_denied {s : State} {e : ClaimEntry} (quiet : s.EndsNoWindow e)
    (no : ¬ s.entryAdmitted e = true) :
    s.takeEntry e = { s with fans := { s.fans with starts := s.startsWithout e } } := by
  rw [State.takeEntry, ← State.entryAdmitted, if_neg no, State.dropSame_of_quiet quiet]

/-- R93, R99: an own claim is admitted, and its fan starts. -/
theorem State.decideClaim_of_admitted {s : State} {f : Fan} {e : ClaimEntry} (fan : e.fan = f)
    (waits : (s.fan f).state = .waitSlot) (yes : s.entryAdmitted e = true) (room : (s.startsWithout e).length < 16) :
    s.decideClaim f e = { s with fans := { s.fans with
      units := s.fans.units.set f (FanUnit.enter { s.fan f with claim := .none, backoff := none } .starting)
      starts := s.startsWithout e ++ [e] } } := by
  have quiet : s.EndsNoWindow e := by simp [State.EndsNoWindow, fan, waits]
  have fan' : ∀ l, State.fan { s with fans := { s.fans with starts := l } } f = s.fan f := fun _ => rfl
  rw [State.decideClaim, if_pos yes, State.takeEntry_of_admitted quiet yes room, State.startFan, fan',
    if_pos waits, State.moveFan_of_turns _ _ rfl, State.setClaim_fan, if_pos rfl, fan']
  cases f <;> rfl

/-- R99, R102: an own claim is denied, and goes to BACKOFF. -/
theorem State.decideClaim_of_denied {s : State} {f : Fan} {e : ClaimEntry} (quiet : s.EndsNoWindow e)
    (no : ¬ s.entryAdmitted e = true) :
    s.decideClaim f e = { s with fans := { s.fans with
      units := s.fans.units.set f { s.fan f with
        claim := .backoff, backoff := some (tuAfter s.tu (5000 * (1 + s.cfg.station.val % 4))) }
      starts := s.startsWithout e } } := by
  rw [State.decideClaim, if_neg no, State.takeEntry_of_denied quiet no]
  rfl

/-- R151: a claim enters an empty slot, and its fan's request while the slot is taken. -/
theorem Transmit.takeClaim_eq (tx : Transmit) (f : Fan) : tx.takeClaim f =
    if tx.slot = none then { tx with slot := some ⟨f, .waiting⟩, claimAttempts := 0 }
    else { tx with requests := tx.requests.set f true } := by
  unfold Transmit.takeClaim
  cases tx.slot <;> rfl

theorem PerFan.set_set {α : Type} (p : PerFan α) (f : Fan) (v w : α) : (p.set f v).set f w = p.set f w := by
  cases f <;> rfl

/-- Settles O30: the claim of an expired backoff is handed over or decided, and a head that expires is handed to its fan. -/
theorem claimTimersAnswer : Obligations.ClaimTimersAnswer := by
  refine ⟨?_, ?_⟩
  · intro s u dt e f x l h hu waits claim backoff hdue hx hl
    have start : exec (.backoffTimerExpiry dt f) s = .next (u.handClaim f) := by
      simp only [exec, execBackoffTimerExpiry, live_released _ _ _ h, hu, waits, claim, backoff, due, hdue, and_self,
        if_true]
    have entry : (u.setClaim f .waiting none).entryNow u.cfg.station f (decide (u.zone.mode = .fire)) = x := hx.symm
    have starts : (u.setClaim f .waiting none).startsWithout x = l := by
      rw [State.startsWithout_eq, ← hl, hx]; rfl
    have own : (u.setClaim f .waiting none).fan f = { u.fan f with claim := .waiting, backoff := none } := by simp
    have admitted : (u.setClaim f .waiting none).entryAdmitted x = true ↔ x.fire = true ∨ l.length < u.cfg.startLimit := by
      rw [State.entryAdmitted_iff, starts]; rfl
    have alone : u.line.isolated = true → u.handClaim f = (u.setClaim f .waiting none).decideClaim f x := fun hi => by
      rw [State.handClaim, State.giveClaim, if_pos (by simpa using hi), State.localClaim, ← entry]; rfl
    refine ⟨fun hi => ?_, fun hi room yes => ?_, fun hi fire full => ?_⟩
    · rw [start, State.handClaim, State.giveClaim, if_neg (by simpa using hi), Transmit.takeClaim_eq]
      rfl
    · rw [start, alone hi, State.decideClaim_of_admitted (by rw [hx]) (by rw [own]; exact waits) (admitted.mpr yes)
        (by rw [starts]; exact room), starts, own]
      simp [State.setClaim, State.setFan, PerFan.set_set]
    · have no : ¬ (u.setClaim f .waiting none).entryAdmitted x = true := by
        rw [admitted, fire]; simpa using full
      rw [start, alone hi, State.decideClaim_of_denied (by rw [State.EndsNoWindow, hx]; simp [waits]) no, starts, own]
      simp [State.setClaim, State.setFan, PerFan.set_set, claim]
  · intro s u dt e rest h hu starts hexp
    have start : exec (.startEntryExpiry dt) s =
        .next (State.handRemoval { u with fans := { u.fans with starts := rest } } e) := by
      simp only [exec, execStartEntryExpiry, live_released _ _ _ h, hu, starts, hexp, if_true]
    refine ⟨fun own starting => ?_, fun hn => ?_⟩
    · rw [start, State.handRemoval, if_pos (by exact ⟨own, starting⟩), State.moveFan_of_turns _ _ rfl, FanUnit.enter_running]
      rfl
    · rw [start, State.handRemoval, if_neg]
      rintro ⟨own, starting⟩
      exact hn.elim (· own) (· starting)

end Sys2Proof.Machine
end

section
/-! The end of an event, once more: what it writes where no fan is told of a damper, and what a claim that it places leaves
of the fans. -/

namespace Sys2Proof.Machine

/-! ### Dampers that answer without a fan hearing of it -/

theorem State.DampersFollow.congr {s t : State} (h : s.DampersFollow) (dampers : t.dampers = s.dampers)
    (forces : t.forces = s.forces) (zone : t.zone.mode = s.zone.mode) (decl : t.monitor.decl = s.monitor.decl)
    (view : t.view.entries = s.view.entries) (store : t.store = s.store)
    (wants : ∀ f, (t.fan f).state.wantsOpen = (s.fan f).state.wantsOpen) : t.DampersFollow := by
  have same := State.damper_congr dampers
  intro d
  rw [State.effectiveCommand_congr forces zone decl (State.preAlarmHit_congr view) (State.cfg_of_store store) wants
    (fun k => by rw [same]) d, same]
  exact h d

theorem State.driven_of_follow {s : State} {d : DamperId}
    (h : (s.damper d).fitted = true → (s.damper d).state ≠ .stuck →
      (s.effectiveCommand d = true ↔ (s.damper d).state = .opened ∨ (s.damper d).state = .opening)) :
    s.driven d = s.damper d := by
  unfold State.driven
  exact if_neg fun ⟨hf, hs, hn⟩ => hn (h hf hs)

/-- R115: a fan does not hear of the answer of its extract damper, which stands as it stood or which the fan does not want
open. -/
def State.Unheard (s : State) (f : Fan) : Prop :=
  s.driven (.ed f) = s.damper (.ed f) ∨ (s.fan f).state.wantsOpen = false

/-- R111: a damper that no fan hears of writes its own record alone. -/
theorem State.driveDamper_of_unheard {s : State} {d : DamperId} (h : ∀ f, d = .ed f → s.Unheard f) :
    s.driveDamper d = { s with dampers := (s.driveDamper d).dampers } := by
  rw [State.driveDamper_eq]
  split
  · rfl
  rename_i moved
  have quiet : s.moveDamper d (s.driven d) = s.setDamper d (s.driven d) := by
    cases d with
    | td k => rfl
    | ed f =>
      have unwanted : (s.fan f).state.wantsOpen = false := (h f rfl).resolve_left moved
      have stuck : (s.damper (.ed f)).state = .stuck ∨ (s.driven (.ed f)).state ≠ .stuck := by
        unfold State.driven
        split
        · exact .inr (DamperUnit.travelling_not_stuck _ _ _ _)
        · exact Classical.em _
      have reach : ∀ u, (s.setDamper (.ed f) u).fanReachesOpen f = s.setDamper (.ed f) u := fun u =>
        if_neg (show ¬ (s.fan f).state = .waitDamper by rintro hw; rw [hw] at unwanted; cases unwanted)
      have leave : ∀ u, (s.setDamper (.ed f) u).fanLeavesOpen f = s.setDamper (.ed f) u := fun u =>
        State.fanLeavesOpen_of_unwanted _ _ unwanted
      simp only [State.moveDamper, State.handDamper, reach, leave]
      (repeat' split) <;> simp_all
  rw [quiet]; rfl

/-- Where no fan hears of its damper, no claim has been started and no pass requested, the end of an event moves dampers
alone. -/
theorem State.finish_of_unheard {s : State} (h : ∀ f, s.Unheard f) (served : s.RequestsServed) :
    s.finish = { s with dampers := s.finish.dampers } := by
  have drive : ∀ (D : PerDamper DamperUnit) (d : DamperId),
      (∀ f, d = .ed f → State.damper { s with dampers := D } (.ed f) = s.damper (.ed f)) →
      ∃ D', State.driveDamper { s with dampers := D } d = { s with dampers := D' } ∧
        ∀ d', d' ≠ d → D'.get d' = D.get d' := by
    intro D d own
    have quiet : ∀ f, d = .ed f → State.Unheard { s with dampers := D } f := by
      intro f hf
      have cmd : State.effectiveCommand { s with dampers := D } (.ed f) = s.effectiveCommand (.ed f) := rfl
      have same : State.driven { s with dampers := D } (.ed f) = s.driven (.ed f) :=
        State.driven_congr cmd (own f hf) rfl rfl rfl
      unfold State.Unheard
      rw [same, own f hf]
      exact h f
    refine ⟨_, State.driveDamper_of_unheard quiet, fun d' hd => ?_⟩
    have := State.driveDamper_damper { s with dampers := D } d d'
    rw [if_neg hd] at this
    exact this
  have noClaim : ∀ D, State.placeClaims { s with dampers := D } = { s with dampers := D } := fun D =>
    State.placeClaims_of_none _ served.2
  obtain ⟨Da, ha, keepA⟩ := drive s.dampers (.ed .A) fun _ _ => rfl
  obtain ⟨Db, hb, -⟩ := drive Da (.ed .B) fun f hf => by cases hf; exact keepA (.ed .B) (by simp)
  have row : ∀ (l : List Ix4) (D : PerDamper DamperUnit),
      ∃ D', l.foldl (fun t k => t.driveDamper (.td k)) { s with dampers := D } = { s with dampers := D' } := by
    intro l
    induction l with
    | nil => exact fun D => ⟨D, rfl⟩
    | cons k l ih =>
      intro D
      obtain ⟨D', hD, -⟩ := drive D (.td k) (by simp)
      rw [List.foldl_cons, hD]
      exact ih D'
  obtain ⟨D, hD⟩ := row Ix4.all Db
  have first : s.placeClaim .A = s := State.placeClaim_of_none _ _ (by simp [served.2])
  have all : s.finish = { s with dampers := D } := by
    rw [State.finish, State.driveDampers, State.driveExtracts, first, ha, noClaim, hb, hD, noClaim]
    exact State.serve_of_none _ served.1
  rw [all]

/-- R26: where no pass is requested, the end of an event leaves the Share Computer alone. -/
theorem State.finish_share_of_none {s : State} (h : s.share.requested = false) : s.finish.share = s.share := by
  rw [State.finish, State.serve_of_none _ (by simpa using h)]
  simp

/-! ### What a claim leaves of the fans (R99 to R103) -/

/-- R100: a fan's record as its start window may have ended. -/
def FanUnit.RanFrom (v u : FanUnit) : Prop := v = u ∨ u.state = .starting ∧ v = { u with state := .running }

theorem FanUnit.RanFrom.refl (u : FanUnit) : u.RanFrom u := .inl rfl

theorem FanUnit.RanFrom.trans {u v w : FanUnit} (h : v.RanFrom u) (k : w.RanFrom v) : w.RanFrom u := by
  rcases h with rfl | ⟨hs, rfl⟩
  · exact k
  · rcases k with rfl | ⟨hv, -⟩
    · exact .inr ⟨hs, rfl⟩
    · cases hv

theorem FanUnit.RanFrom.of_not_starting {u v : FanUnit} (h : v.RanFrom u) (hs : u.state ≠ .starting) : v = u :=
  h.resolve_right fun k => hs k.1

theorem FanUnit.RanFrom.claim {u v : FanUnit} (h : v.RanFrom u) : v.claim = u.claim := by
  rcases h with rfl | ⟨-, rfl⟩ <;> rfl

theorem State.handRemoval_fan (s : State) (e : ClaimEntry) (f : Fan) : ((s.handRemoval e).fan f).RanFrom (s.fan f) := by
  unfold State.handRemoval
  split
  · rename_i h
    rw [State.moveFan_fan]
    split
    · rename_i hf
      subst hf
      exact .inr ⟨h.2, by simp⟩
    · exact .refl _
  · exact .refl _

theorem State.takeEntry_fan (s : State) (e : ClaimEntry) (f : Fan) : ((s.takeEntry e).fan f).RanFrom (s.fan f) := by
  have drop : ((s.dropSame e).fan f).RanFrom (s.fan f) := by
    unfold State.dropSame
    split
    · exact State.handRemoval_fan _ e f
    · exact .refl _
  have append : ∀ t : State, ((t.appendClaim e).fan f).RanFrom (t.fan f) := by
    intro t
    unfold State.appendClaim
    split
    · exact .refl _
    · split
      · exact .refl _
      · exact State.handRemoval_fan _ _ f
  unfold State.takeEntry
  split
  · exact drop.trans (append _)
  · exact drop

/-- R101, R102: the record of a fan in WAIT_SLOT whose claim has been decided: it starts, or backs off. -/
def FanUnit.DecidedFrom (v u : FanUnit) : Prop :=
  v = FanUnit.enter { u with claim := .none, backoff := none } .starting ∨
  ∃ b, v = { u with claim := .backoff, backoff := some b }

theorem State.decideClaim_fan {s : State} {f : Fan} {e : ClaimEntry} (waits : (s.fan f).state = .waitSlot) :
    ((s.decideClaim f e).fan f).DecidedFrom (s.fan f) := by
  have same : (s.takeEntry e).fan f = s.fan f := (s.takeEntry_fan e f).of_not_starting (by simp [waits])
  unfold State.decideClaim
  split
  · left
    rw [State.startFan, if_pos (by rw [same]; exact waits)]
    simp [same]
  · right
    exact ⟨_, by simp [State.enterBackoff, same]; rfl⟩

theorem State.decideClaim_fan_of_ne {s : State} {f g : Fan} (h : g ≠ f) (e : ClaimEntry) :
    ((s.decideClaim f e).fan g).RanFrom (s.fan g) := by
  unfold State.decideClaim State.startFan State.enterBackoff
  (repeat' split) <;> simpa [h] using s.takeEntry_fan e g

end Sys2Proof.Machine
end

section
/-! The run-down of a fan (R95). -/

namespace Sys2Proof.Machine

/-- R88: a fan's availability is read from the record in force and from whether it is FAULTED. -/
theorem State.available_congr {s t : State} {f : Fan} (cfg : t.cfg = s.cfg)
    (faulted : (t.fan f).state = .faulted ↔ (s.fan f).state = .faulted) : t.available f = s.available f := by
  have fitted : t.fanFitted f = s.fanFitted f := by cases f <;> simp only [State.fanFitted, cfg]
  simp only [State.available, fitted, ne_eq, faulted]

/-- R89: so are the needs, from the staging count. -/
theorem State.needed_congr {s t : State} (cfg : t.cfg = s.cfg) (staging : t.fans.staging = s.fans.staging)
    (faulted : ∀ g, (t.fan g).state = .faulted ↔ (s.fan g).state = .faulted) (f : Fan) : t.needed f = s.needed f := by
  have available : ∀ g, t.available g = s.available g := fun g => State.available_congr cfg (faulted g)
  have duty : t.duty = s.duty := by rw [State.duty, State.duty, available]
  rw [State.needed, State.needed, staging, available, duty]

/-- R95: a fan as its run-down has ended, before it answers its need. -/
def State.ranDown (s : State) (f : Fan) : State := (s.setFan f { s.fan f with rundown := none }).moveFan f .stopped

theorem State.endRundown_eq (s : State) (f : Fan) :
    s.endRundown f = if (s.ranDown f).needed f then (s.ranDown f).leaveStopped f else s.ranDown f := rfl

theorem State.ranDown_fan (s : State) (f : Fan) :
    (s.ranDown f).fan f = { s.fan f with state := .stopped, rundown := none, judge := false, low := 0 } := by
  simp [State.ranDown, FanUnit.enter]

theorem State.ranDown_fan_of_ne (s : State) {f g : Fan} (h : g ≠ f) : (s.ranDown f).fan g = s.fan g := by
  simp [State.ranDown, h]

@[simp] theorem State.ranDown_fans (s : State) (f : Fan) :
    (s.ranDown f).fans.staging = s.fans.staging ∧ (s.ranDown f).fans.starts = s.fans.starts ∧
    (s.ranDown f).fans.begun = s.fans.begun := by simp [State.ranDown]

@[simp] theorem State.ranDown_frame (s : State) (f : Fan) :
    (s.ranDown f).tu = s.tu ∧ (s.ranDown f).released = s.released ∧ (s.ranDown f).pins = s.pins ∧
    (s.ranDown f).store = s.store ∧ (s.ranDown f).view = s.view ∧ (s.ranDown f).share = s.share ∧
    (s.ranDown f).fume = s.fume ∧ (s.ranDown f).monitor = s.monitor ∧ (s.ranDown f).zone = s.zone ∧
    (s.ranDown f).dampers = s.dampers ∧ (s.ranDown f).line = s.line ∧ (s.ranDown f).rx = s.rx ∧
    (s.ranDown f).tx = s.tx ∧ (s.ranDown f).forces = s.forces ∧ (s.ranDown f).port = s.port := by simp [State.ranDown]

/-- R88, R89: the end of a run-down changes no need. -/
theorem State.ranDown_needed {s : State} {f : Fan} (h : (s.fan f).state = .rundown) (g : Fan) :
    (s.ranDown f).needed g = s.needed g := by
  refine State.needed_congr (State.cfg_of_store (by simp)) (by simp) (fun x => ?_) g
  by_cases hx : x = f
  · subst hx; simp [State.ranDown_fan, h]
  · rw [State.ranDown_fan_of_ne _ hx]

/-- R109: while only the fan `f` has moved, from a state in which it wanted its damper open to another such, every damper
follows as before. -/
theorem State.DampersFollow.of_fan {s t : State} {f : Fan} (h : s.DampersFollow) (blocks : s.SameBlocks t)
    (others : ∀ g, g ≠ f → t.fan g = s.fan g)
    (own : (t.fan f).state.wantsOpen = (s.fan f).state.wantsOpen) : t.DampersFollow := by
  refine h.congr blocks.dampers blocks.forces (by rw [blocks.zone]) (by rw [blocks.monitor]) (by rw [blocks.view])
    blocks.store fun g => ?_
  by_cases hg : g = f
  · rw [hg, own]
  · rw [others g hg]

/-- R109: while one fan alone has moved, the dampers of all others follow as before, and so are not heard of. -/
theorem State.unheard_of_other {s t : State} {f : Fan} (h : s.DampersFollow) (blocks : s.SameBlocks t)
    (others : ∀ g, g ≠ f → t.fan g = s.fan g) {d : DamperId} (hd : d ≠ .ed f) : t.driven d = s.damper d := by
  have cmd : t.effectiveCommand d = s.effectiveCommand d := by
    cases d with
    | ed g =>
      rw [State.effectiveCommand_ed, State.effectiveCommand_ed, blocks.forces, others g (by simpa using hd)]
    | td k =>
      exact State.effectiveCommand_td_congr blocks.forces (by rw [blocks.zone]) (by rw [blocks.monitor])
        (State.preAlarmHit_congr (by rw [blocks.view])) (State.cfg_of_store blocks.store) k
        (by rw [State.damper_congr blocks.dampers])
  rw [State.driven_of_follow, State.damper_congr blocks.dampers]
  rw [cmd, State.damper_congr blocks.dampers]
  exact h d

/-- R101: a claim started waits for the end of its event. -/
theorem State.startClaim_begun {s : State} {f : Fan} (h : (s.fan f).claim ≠ .abandoned) :
    (s.startClaim f).fans.begun = s.fans.begun.set f true := by
  rw [State.startClaim, if_neg h]; rfl

/-- Settles O31: the fan of an ended run-down stays STOPPED, where its damper alone answers the event, or it wants its damper
open as before, and every damper stands. -/
theorem rundownEndsInStopped : Obligations.RundownEndsInStopped := by
  intro s u dt e f h hu follow served down timer hdue free
  obtain ⟨requested, begun⟩ := served
  have start : exec (.rundownTimerExpiry dt f) s = .next (u.endRundown f).finish := by
    simp only [exec, execRundownTimerExpiry, live_released _ _ _ h, hu, down, timer, due, hdue, and_self, if_true]
  have blocks : u.SameBlocks (u.endRundown f) := by constructor <;> simp
  have others : ∀ g, g ≠ f → (u.endRundown f).fan g = u.fan g := fun g hg => u.endRundown_fan_of_ne hg
  have own := u.ranDown_fan f
  have need := State.ranDown_needed down f
  refine ⟨_, start, ?_⟩
  have frame : (∀ d, d ≠ .ed f → (u.endRundown f).finish.damper d = u.damper d) ∧
      (u.endRundown f).finish.share = u.share ∧ (u.endRundown f).finish.zone = u.zone ∧
      (u.endRundown f).finish.monitor = u.monitor ∧ (u.endRundown f).finish.view = u.view ∧
      (u.endRundown f).finish.line = u.line ∧ (u.endRundown f).finish.rx = u.rx ∧
      (u.endRundown f).finish.forces = u.forces ∧ (u.endRundown f).finish.store = u.store := by
    refine ⟨fun d hd => ?_, ?_, ?_⟩
    · rw [State.finish_damper, State.unheard_of_other follow blocks others hd]
    · rw [State.finish_share_of_none (by simpa using requested)]; simp
    · simp
  obtain ⟨dampers, share, zone, monitor, view, line, rx, forces, store⟩ := frame
  have step : u.endRundown f = if u.needed f then (u.ranDown f).leaveStopped f else u.ranDown f := by
    rw [State.endRundown_eq, need]
  by_cases hn : u.needed f = true ∧ (u.damper (.ed f)).state ≠ .stuck
  case neg =>
    have stays : u.endRundown f = u.ranDown f := by
      rw [step]
      split
      · have stuck : ((u.ranDown f).damper (.ed f)).state = .stuck := by
          rw [State.damper_congr (s := u) (by simp)]; tauto
        rw [State.leaveStopped, stuck]
      · rfl
    have unheard : ∀ g, (u.ranDown f).Unheard g := by
      intro g
      by_cases hg : g = f
      · exact .inr (by rw [hg, own]; rfl)
      · refine .inl ?_
        rw [← stays, State.unheard_of_other follow blocks others (by simpa using hg), State.damper_congr blocks.dampers]
    have ends : (u.endRundown f).finish = { u.ranDown f with dampers := (u.endRundown f).finish.dampers } := by
      rw [stays]; exact State.finish_of_unheard unheard (by simp [State.RequestsServed, requested, begun])
    have fan : ∀ g, (u.endRundown f).finish.fan g = (u.ranDown f).fan g := fun g => by rw [ends]; rfl
    refine ⟨by rw [fan, own], by rw [fan, own], by rw [fan, own], fun _ => ⟨by rw [fan, own], ?_, ?_, ?_, ?_⟩,
      fun hy ho => ?_, fun hy _ hs => absurd ⟨hy, hs⟩ hn, dampers, share, zone, monitor, view, line, rx, forces, store⟩
    · simp [State.ownerCommand, fan, own, FanState.wantsOpen]
    · rw [ends]; simp
    · rw [ends]; simp
    · rw [fan, State.ranDown_fan_of_ne _ f.other_ne]
    · exact absurd ⟨hy, by simp [ho]⟩ hn
  case pos =>
    obtain ⟨hy, hs⟩ := hn
    have damper : (u.ranDown f).damper (.ed f) = u.damper (.ed f) := State.damper_congr (by simp) _
    rw [hy, if_pos rfl, State.leaveStopped, damper] at step
    have follows : (u.endRundown f).DampersFollow := by
      refine follow.of_fan blocks others ?_
      rw [step, down]
      (repeat' split) <;> simp_all [FanState.wantsOpen]
    by_cases ho : (u.damper (.ed f)).state = .opened
    · rw [ho] at step
      have fan : (u.endRundown f).fan f = { u.fan f with
          state := .waitSlot, claim := .waiting, backoff := none, rundown := none, judge := false, low := 0 } := by
        simp [step, State.startClaim_fan, own, free, FanUnit.enter]
      have mark : (u.endRundown f).fans.begun = (PerFan.all false).set f true := by
        rw [step, State.startClaim_begun (by simp [own, free, FanUnit.enter])]
        simp [begun]
      have ends : (u.endRundown f).finish =
          State.giveClaim { u.endRundown f with fans := { (u.endRundown f).fans with begun := PerFan.all false } } f := by
        rw [State.finish_of_follow _ follows, State.serve_of_none _ (by simpa using requested)]
        exact State.placeClaims_of_one _ _ mark (by rw [fan])
      have record : ((u.endRundown f).finish.fan f).rundown = none ∧ ((u.endRundown f).finish.fan f).low = 0 ∧
          ((u.endRundown f).finish.fan f).judge = false := by
        rw [ends, State.giveClaim]
        split
        · have waits : ((u.endRundown f).fan f).state = .waitSlot := by rw [fan]
          rcases State.decideClaim_fan (e := _) (s := { u.endRundown f with
            fans := { (u.endRundown f).fans with begun := PerFan.all false } }) waits with h | ⟨b, h⟩ <;>
            (rw [State.localClaim, h]; simp [fan, FanUnit.enter])
        · simp [fan]
      obtain ⟨rundown, low, judge⟩ := record
      refine ⟨rundown, low, judge, by simp [hy], fun _ _ hi empty => ?_, fun _ hno => absurd ho hno, dampers,
        share, zone, monitor, view, line, rx, forces, store⟩
      have place : (u.endRundown f).finish = { u.endRundown f with
          fans := { (u.endRundown f).fans with begun := PerFan.all false }
          tx := u.tx.takeClaim f } := by
        rw [ends, State.giveClaim, if_neg (by simpa using hi)]
        simp [step]
      have units : ∀ g, (u.endRundown f).finish.fan g = (u.endRundown f).fan g := fun g => by rw [place]; rfl
      refine ⟨by rw [units, fan], by rw [units, fan], by rw [place]; simp, ?_, ?_⟩
      · rw [units, others _ f.other_ne]
      · rw [place, Transmit.takeClaim_eq, if_pos empty]
    · have waits : u.endRundown f = (u.ranDown f).moveFan f .waitDamper := by
        rw [step]
        split <;> simp_all
      have ends : (u.endRundown f).finish = u.endRundown f :=
        State.finish_of_settled _ follows (by simp [State.RequestsServed, waits, requested, begun])
      have fan : (u.endRundown f).fan f =
          { u.fan f with state := .waitDamper, rundown := none, judge := false, low := 0 } := by
        simp [waits, own, FanUnit.enter]
      rw [ends] at dampers share zone monitor view line rx forces store ⊢
      refine ⟨by rw [fan], by rw [fan], by rw [fan], by simp [hy], fun _ h => absurd h ho, fun _ _ _ => ⟨by rw [fan],
        by rw [fan, free], by simp, by simp [waits], others _ f.other_ne, ?_⟩, dampers, share, zone, monitor, view, line,
        rx, forces, store⟩
      simp [State.ownerCommand, fan, FanState.wantsOpen]

end Sys2Proof.Machine
end

section
/-! Fans that are FAULTED: no operation but a fault makes one, none but CLEAR FAULTS ends one, and the end of an event leaves its
record. With that the proving windows (R104, R105) and the damper timers (R111, R112). -/

namespace Sys2Proof.Machine

/-! ### The fans that are FAULTED, through the operations on the fans -/

/-- The same fans are FAULTED before and after. -/
def State.SameFaults (s t : State) : Prop := ∀ g, (t.fan g).state = .faulted ↔ (s.fan g).state = .faulted

theorem State.SameFaults.refl (s : State) : s.SameFaults s := fun _ => Iff.rfl

theorem State.SameFaults.trans {s t u : State} (h : s.SameFaults t) (k : t.SameFaults u) : s.SameFaults u :=
  fun g => (k g).trans (h g)

theorem State.SameFaults.of_fan {s t : State} (f : Fan) (others : ∀ g, g ≠ f → t.fan g = s.fan g)
    (own : (t.fan f).state = .faulted ↔ (s.fan f).state = .faulted) : s.SameFaults t := by
  intro g
  by_cases h : g = f
  · rw [h, own]
  · rw [others g h]

theorem State.SameFaults.of_states {s t : State} (h : ∀ g, (t.fan g).state = (s.fan g).state) : s.SameFaults t :=
  fun g => by rw [h]

theorem State.SameFaults.moveFan {s : State} {f : Fan} {st : FanState} (was : (s.fan f).state ≠ .faulted)
    (becomes : st ≠ .faulted) : s.SameFaults (s.moveFan f st) :=
  .of_fan f (fun g hg => by simp [hg]) (by simp [was, becomes])

theorem State.SameFaults.setClaim (s : State) (f : Fan) (c : ClaimState) (b : Option Tu) :
    s.SameFaults (s.setClaim f c b) := .of_states fun g => by rw [State.setClaim_fan]; split <;> simp [*]

theorem State.SameFaults.takeEntry (s : State) (e : ClaimEntry) : s.SameFaults (s.takeEntry e) := by
  intro g
  rcases s.takeEntry_fan e g with h | ⟨hs, h⟩ <;> rw [h]
  simp [hs]

theorem State.SameFaults.startFan (s : State) (f : Fan) : s.SameFaults (s.startFan f) := by
  unfold State.startFan
  split
  · rename_i h
    exact (State.SameFaults.setClaim s f _ _).trans (.moveFan (by simp [h]) (by simp))
  · exact .setClaim s f _ _

theorem State.SameFaults.decideClaim (s : State) (f : Fan) (e : ClaimEntry) : s.SameFaults (s.decideClaim f e) := by
  unfold State.decideClaim
  split
  · exact (State.SameFaults.takeEntry s e).trans (.startFan _ f)
  · exact (State.SameFaults.takeEntry s e).trans (.setClaim _ f _ _)

theorem State.SameFaults.giveClaim (s : State) (f : Fan) : s.SameFaults (s.giveClaim f) := by
  unfold State.giveClaim
  split
  · exact .decideClaim s f _
  · exact .refl s

theorem State.SameFaults.placeClaim (s : State) (f : Fan) : s.SameFaults (s.placeClaim f) := by
  have mark : s.SameFaults { s with fans := { s.fans with begun := s.fans.begun.set f false } } := fun _ => Iff.rfl
  unfold State.placeClaim
  simp only
  split
  · split
    · exact mark.trans (.giveClaim _ f)
    · exact mark
  · exact .refl s

theorem State.SameFaults.startClaim (s : State) (f : Fan) : s.SameFaults (s.startClaim f) :=
  .of_states fun g => State.startClaim_state s f g

theorem State.SameFaults.abortClaim (s : State) (f : Fan) : s.SameFaults (s.abortClaim f) :=
  .of_states fun g => State.abortClaim_state s f g

theorem State.SameFaults.leaveStopped {s : State} {f : Fan} (h : (s.fan f).state ≠ .faulted) :
    s.SameFaults (s.leaveStopped f) := by
  unfold State.leaveStopped
  split
  · exact (State.SameFaults.moveFan h (by simp)).trans (.startClaim _ f)
  · exact .refl s
  · exact .moveFan h (by simp)

theorem State.SameFaults.endRundown {s : State} {f : Fan} (h : (s.fan f).state ≠ .faulted) :
    s.SameFaults (s.endRundown f) := by
  have down : s.SameFaults (s.ranDown f) :=
    .of_fan f (fun g hg => s.ranDown_fan_of_ne hg) (by simp [s.ranDown_fan, h])
  rw [State.endRundown_eq]
  split
  · exact down.trans (.leaveStopped (by simp [s.ranDown_fan]))
  · exact down

theorem State.SameFaults.enterRundown {s : State} {f : Fan} (h : (s.fan f).state ≠ .faulted) :
    s.SameFaults (s.enterRundown f) := by
  have timer : ∀ x, s.SameFaults ((s.moveFan f .rundown).setFan f { (s.moveFan f .rundown).fan f with rundown := x }) :=
    fun x => .of_fan f (fun g hg => by simp [hg]) (by simp [h])
  unfold State.enterRundown
  simp only
  split
  · exact (timer _).trans (.endRundown (by simp))
  · exact timer _

theorem State.SameFaults.answerNeed (s : State) (f : Fan) : s.SameFaults (s.answerNeed f) := by
  unfold State.answerNeed
  split
  · split
    · exact .leaveStopped (by simp [*])
    · exact .refl s
  · split
    · exact .moveFan (by simp [*]) (by simp)
    · exact (State.SameFaults.abortClaim s f).trans (.moveFan (by simp [*]) (by simp))
    · exact .enterRundown (by simp [*])
    · exact .enterRundown (by simp [*])
    · exact .refl s

theorem State.SameFaults.stage (s : State) : s.SameFaults s.stage :=
  (show s.SameFaults { s with fans := { s.fans with
    staging := stagingFor s.availableCount s.fans.target s.fans.staging } } from fun _ => Iff.rfl).trans
    ((State.SameFaults.answerNeed _ .A).trans (.answerNeed _ .B))

theorem State.SameFaults.driveDamper (s : State) (d : DamperId) : s.SameFaults (s.driveDamper d) := by
  have set : s.SameFaults (s.setDamper d (s.driven d)) := fun _ => Iff.rfl
  rw [State.driveDamper_eq]
  split
  · exact .refl s
  rename_i moved
  cases d with
  | td k => exact set
  | ed f =>
    refine set.trans ?_
    have stuck : (s.damper (.ed f)).state ≠ (s.driven (.ed f)).state → (s.driven (.ed f)).state ≠ .stuck := by
      unfold State.driven
      split
      · exact fun _ => DamperUnit.travelling_not_stuck _ _ _ _
      · exact fun h => absurd rfl h
    unfold State.moveDamper State.handDamper State.fanReachesOpen State.fanLeavesOpen
    simp only
    split
    · exact .refl _
    · rename_i hne
      rw [if_neg (stuck hne)]
      split
      · split
        · rename_i h
          exact (State.SameFaults.moveFan (by rw [h]; simp) (by simp)).trans (.startClaim _ f)
        · exact .refl _
      · split
        · split
          · rename_i h; exact .enterRundown (by rw [h]; simp)
          · rename_i h; exact .enterRundown (by rw [h]; simp)
          · rename_i h
            exact (State.SameFaults.abortClaim _ f).trans (.moveFan (by rw [State.abortClaim_state, h]; simp) (by simp))
          · exact .refl _
        · exact .refl _

theorem State.SameFaults.foldl {α : Type} {op : State → α → State} (h : ∀ (t : State) x, t.SameFaults (op t x)) (l : List α)
    (s : State) : s.SameFaults (l.foldl op s) := by
  induction l generalizing s with
  | nil => exact .refl s
  | cons x xs ih => exact (h s x).trans (ih _)

theorem State.SameFaults.finish (s : State) : s.SameFaults s.finish := by
  have place : ∀ t : State, t.SameFaults t.placeClaims := fun t =>
    (State.SameFaults.placeClaim t .A).trans (.placeClaim _ .B)
  have extracts : s.SameFaults s.driveExtracts :=
    (State.SameFaults.placeClaim s .A).trans ((State.SameFaults.driveDamper _ _).trans
      ((place _).trans (.driveDamper _ _)))
  have all : s.SameFaults s.driveDampers :=
    extracts.trans (.foldl (fun t k => .driveDamper t (.td k)) _ _)
  rw [State.finish]
  exact all.trans ((place _).trans (.of_states fun g => by rw [State.serve_fan]))

/-- R88: Fmax_eff follows the record in force and the fans that are FAULTED. -/
theorem State.SameFaults.availableCount {s t : State} (h : s.SameFaults t) (cfg : t.cfg = s.cfg) :
    t.availableCount = s.availableCount := by
  simp only [State.availableCount, State.available_congr cfg (h _)]

theorem State.SameFaults.fmaxEff {s t : State} (h : s.SameFaults t) (cfg : t.cfg = s.cfg) : t.fmaxEff = s.fmaxEff := by
  rw [State.fmaxEff, State.fmaxEff, h.availableCount cfg, cfg]

/-! ### A fan that is FAULTED, at the end of an event -/

theorem State.placeClaim_fan_of_faulted {s : State} {f : Fan} (h : (s.fan f).state = .faulted) (idle : (s.fan f).claim ≠ .waiting)
    (g : Fan) : (s.placeClaim g).fan f = s.fan f := by
  by_cases hg : f = g
  · subst hg
    unfold State.placeClaim
    simp only
    split
    · rw [if_neg (by exact idle)]; rfl
    · rfl
  · unfold State.placeClaim State.giveClaim
    simp only
    split
    · split
      · split
        · exact (State.decideClaim_fan_of_ne hg _).of_not_starting
            (show (s.fan f).state ≠ .starting by simp [h])
        · rfl
      · rfl
    · rfl

/-- R115: the answers of the dampers do not reach the record of a fan that is FAULTED. -/
theorem State.driveDamper_fan_of_faulted {s : State} {f : Fan} (h : (s.fan f).state = .faulted) (d : DamperId) :
    (s.driveDamper d).fan f = s.fan f := by
  by_cases hd : d = .ed f
  · have unheard : ∀ g, d = .ed g → s.Unheard g := by
      intro g hg
      obtain rfl : g = f := by rw [hd] at hg; exact (DamperId.ed.inj hg).symm
      exact .inr (by simp [h, FanState.wantsOpen])
    rw [State.driveDamper_of_unheard unheard]; rfl
  · rw [State.driveDamper_eq]
    split
    · rfl
    rename_i moved
    cases d with
    | td k => rfl
    | ed g =>
      have stuck : (s.driven (.ed g)).state ≠ .stuck := by
        unfold State.driven at moved ⊢
        split
        · exact DamperUnit.travelling_not_stuck _ _ _ _
        · rw [if_neg ‹_›] at moved; exact absurd rfl moved
      rw [State.moveDamper, State.handDamper_fan_of_ne _ (by aesop) _ _ stuck]
      rfl

/-- R96: the end of an event leaves the record of a fan that is FAULTED, whose claim has been aborted. -/
theorem State.finish_fan_of_faulted {s : State} {f : Fan} (h : (s.fan f).state = .faulted)
    (idle : (s.fan f).claim ≠ .waiting) : s.finish.fan f = s.fan f := by
  have place : ∀ (t : State) (g : Fan), t.fan f = s.fan f → (t.placeClaim g).fan f = s.fan f := fun t g ht =>
    (State.placeClaim_fan_of_faulted (by rw [ht, h]) (by rw [ht]; exact idle) g).trans ht
  have drive : ∀ (t : State) (d : DamperId), t.fan f = s.fan f → (t.driveDamper d).fan f = s.fan f := fun t d ht =>
    (State.driveDamper_fan_of_faulted (by rw [ht, h]) d).trans ht
  have row : ∀ (l : List Ix4) (t : State), t.fan f = s.fan f →
      (l.foldl (fun t k => t.driveDamper (.td k)) t).fan f = s.fan f := by
    intro l
    induction l with
    | nil => exact fun _ ht => ht
    | cons k l ih => exact fun t ht => ih _ (drive t _ ht)
  rw [State.finish, State.serve_fan]
  exact place _ _ (place _ _ (row _ _ (drive _ _ (place _ _ (place _ _ (drive _ _ (place _ _ rfl)))))))

/-! ### What a fault leaves (R96) -/

/-- R26: a pass requested in an event is started or awaited as it ends. -/
theorem State.serve_of_requested {s : State} (h : s.share.requested = true) :
    s.serve.share.pass ≠ none ∨ s.serve.share.again = true := by
  unfold State.serve
  rw [if_pos h]
  split
  · exact .inl (by simp [State.startPass])
  · exact .inr rfl

theorem State.finish_of_requested {s : State} (h : s.share.requested = true) :
    s.finish.share.pass ≠ none ∨ s.finish.share.again = true := State.serve_of_requested (by simpa using h)

theorem State.recompute_requested {s : State} (h : s.share.requested = true) : s.recompute.share.requested = true := by
  unfold State.recompute
  split
  · exact h
  · simp [State.requestPass]

@[simp] theorem State.fmaxChanged_requested (s : State) : s.fmaxChanged.share.requested = true :=
  State.recompute_requested rfl

/-- R22, R23: what the demand stage reads. -/
theorem State.demandNow_congr {s t : State} (zone : t.zone.mode = s.zone.mode) (fume : t.fume.cls = s.fume.cls)
    (decl : t.monitor.decl = s.monitor.decl) (cfg : t.cfg = s.cfg) (fmax : t.fmaxEff = s.fmaxEff) :
    t.classNow = s.classNow ∧ t.demandNow = s.demandNow := by
  have cls : t.classNow = s.classNow := by rw [State.classNow, State.classNow, zone, fume, decl]
  exact ⟨cls, by rw [State.demandNow, State.demandNow, zone, cls, cfg, fmax]⟩

/-- R24, R96: as a fan becomes FAULTED a pass is requested, for the class and the demand that it leaves. -/
theorem State.faultFan_share {s : State} {f : Fan} {c : FanFault} (h : (s.fan f).state ≠ .faulted) :
    (s.faultFan f c).share.requested = true ∧ (s.faultFan f c).share.cls = (s.faultFan f c).classNow ∧
    (s.faultFan f c).share.demand = (s.faultFan f c).demandNow := by
  unfold State.faultFan
  simp only
  rw [if_neg h]
  set v := ((s.abortClaim f).setFan f { (s.abortClaim f).fan f with cause := some c, rundown := none, backoff := none }
    ).moveFan f .faulted with hv
  set w := (v.fmaxChanged.noticeFanFault s.fanFault).stage with hw
  have share : w.share = v.requestPass.recompute.share := by simp [hw, State.fmaxChanged]
  have now := v.requestPass.recompute_share
  have same : w.classNow = v.requestPass.classNow ∧ w.demandNow = v.requestPass.demandNow := by
    have faults : v.requestPass.SameFaults w :=
      (State.SameFaults.of_states fun g => by rw [State.noticeFanFault_fan, State.fmaxChanged_fan]; rfl).trans (.stage _)
    have cfg : w.cfg = v.requestPass.cfg := State.cfg_of_store (by simp [hw])
    exact State.demandNow_congr (by simp [hw]) (by simp [hw]) (by simp [hw]) cfg (faults.fmaxEff cfg)
  obtain ⟨cls, demand, -⟩ := now
  exact ⟨by rw [share]; exact State.recompute_requested rfl, by rw [share, same.1, cls], by rw [share, same.2, demand]⟩

end Sys2Proof.Machine
end

section
/-! The proving windows (R104, R105) and the timers of the dampers (R111, R112). -/

namespace Sys2Proof.Machine

theorem ClaimState.aborted_ne_waiting (c : ClaimState) : c.aborted ≠ .waiting := by cases c <;> simp [ClaimState.aborted]

theorem State.faultFan_idle (s : State) {f : Fan} {c : FanFault} (h : (s.fan f).state ≠ .faulted) :
    ((s.faultFan f c).fan f).claim ≠ .waiting := by
  rw [s.faultFan_fan f c h]
  exact ClaimState.aborted_ne_waiting _

theorem State.availableCount_eq (s : State) (f : Fan) :
    s.availableCount = (if s.available f then 1 else 0) + if s.available f.other then 1 else 0 := by
  cases f
  · rfl
  · exact Nat.add_comm _ _

theorem State.fanFault_iff (s : State) : s.fanFault = true ↔ ∃ f, (s.fan f).state = .faulted := by
  simp only [State.fanFault, Bool.or_eq_true, decide_eq_true_eq]
  refine ⟨fun h => h.elim (⟨.A, ·⟩) (⟨.B, ·⟩), fun ⟨f, h⟩ => ?_⟩
  cases f
  · exact .inl h
  · exact .inr h

/-- R88, R96: a fault takes the fan from those that are available, and no other. -/
theorem State.faultFan_faults {s : State} {f g : Fan} {c : FanFault} :
    ((s.faultFan f c).fan g).state = .faulted ↔ g = f ∨ (s.fan g).state = .faulted := by
  by_cases hg : g = f
  · subst hg; simp [s.faultFan_state g c]
  · unfold State.faultFan
    simp only
    split
    · simp [hg]
    · rw [State.SameFaults.stage _ g]
      simp [hg, State.abortClaim_fan_of_ne]

theorem State.renewWindow_fan (s : State) (f g : Fan) : (s.renewWindow f).fan g =
    if g = f then { s.fan f with window := some s.cfg.provingWindow, pulses := 0,
                                 judge := decide ((s.fan f).state = .running) } else s.fan g := by
  simp [State.renewWindow]

/-- Settles O32: a window that no fault ends changes its fan's record alone; a third low one goes by the record that a fault
leaves, and by the demand stage that it runs. -/
theorem provingWindowIsJudged : Obligations.ProvingWindowIsJudged := by
  refine ⟨?_, ?_⟩
  · intro s u dt f j low after h hu follow served fitted window zero hj hlow hafter
    have start : exec (.provingWindowEnd dt f) s = .next ((u.judgeWindow f).renewWindow f).finish := by
      simp only [exec, execProvingWindowEnd, live_released _ _ _ h, hu, fitted, window, zero, and_self, if_true]
    have judged : low ↔ u.windowLow f = true := hlow.trans (by simp [State.windowLow])
    have settled : ∀ n, State.finish (after n) = after n := by
      intro n
      have fan : ∀ g, ((after n).fan g).state = (u.fan g).state := fun g => by
        rw [hafter]; simp only [State.fan_mk, PerFan.get_set]; split <;> simp [*]
      refine State.finish_of_settled _ (follow.congr ?_ ?_ ?_ ?_ ?_ ?_ fun g => by rw [fan]) (by rw [hafter]; exact served) <;>
        rw [hafter]
    have renew : ∀ n, (u.setFan f { u.fan f with low := n }).renewWindow f = after n := by
      intro n
      rw [hafter, ← hj]
      simp [State.renewWindow, State.setFan, PerFan.set_set]
    refine ⟨fun mark => ?_, fun mark good => ?_, fun mark bad few => ?_, fun mark bad many running => ?_⟩
    · have skip : u.judgeWindow f = u.setFan f { u.fan f with low := (u.fan f).low } := by
        rw [State.judgeWindow, if_neg (by simp [mark])]
        cases f <;> rfl
      rw [start, skip, renew, settled]
    · have clear : u.judgeWindow f = u.setFan f { u.fan f with low := 0 } := by
        rw [State.judgeWindow, if_pos mark, if_neg (by rwa [← judged])]
      rw [start, clear, renew, settled]
    · have raise : u.judgeWindow f = u.setFan f { u.fan f with low := (u.fan f).low + 1 } := by
        rw [State.judgeWindow, if_pos mark, if_pos (judged.mp bad), if_pos few]
      rw [start, raise, renew, settled]
    · have fault : u.judgeWindow f = u.faultFan f .proving := by
        rw [State.judgeWindow, if_pos mark, if_pos (judged.mp bad), if_neg (by omega)]
      have well : (u.fan f).state ≠ .faulted := by simp [running]
      set v := (u.faultFan f .proving).renewWindow f with hv
      have cfg : v.cfg = u.cfg := State.cfg_of_store (by simp [hv, State.renewWindow])
      have record := u.faultFan_fan f .proving well
      have own : v.fan f = { (u.faultFan f .proving).fan f with
          window := some u.cfg.provingWindow, pulses := 0, judge := false } := by
        rw [hv, State.renewWindow_fan, if_pos rfl, State.cfg_of_store (s := u) (by simp), record]
        rfl
      have last : v.finish.fan f = v.fan f :=
        State.finish_fan_of_faulted (by simp [own, record]) (by rw [own]; exact u.faultFan_idle well)
      have down : (v.finish.fan f).state = .faulted := by rw [last, own, record]; rfl
      have faults : ∀ g, (v.finish.fan g).state = .faulted ↔ g = f ∨ (u.fan g).state = .faulted := by
        intro g
        rw [State.SameFaults.finish v g, ← State.faultFan_faults (c := .proving), hv, State.renewWindow_fan]
        split <;> simp [*]
      have endCfg : v.finish.cfg = u.cfg := (State.cfg_of_store (by simp)).trans cfg
      obtain ⟨requested, cls, demand⟩ := State.faultFan_share (c := .proving) well
      have since : (u.faultFan f .proving).SameFaults v.finish := fun g => by rw [faults, State.faultFan_faults]
      refine ⟨_, by rw [start, fault], down, by rw [last, own, record]; rfl, by rw [last, own, record]; rfl,
        by rw [last, own], by rw [last, own], by rw [last, own], by rw [last, own, record]; rfl,
        by rw [last, own, record]; rfl, ?_, ?_, v.finish.fanFault_iff.mpr ⟨f, down⟩, ?_, ?_,
        State.finish_of_requested (by simpa [hv, State.renewWindow] using requested), ?_⟩
      · simp [State.speedOutput, State.runOutput, down, FanState.turns]
      · simp [State.ownerCommand, down, FanState.wantsOpen]
      · have gone : v.finish.available f = false := by simp [State.available, down]
        have there : u.available f = true := by simp [State.available, fitted, well]
        have other : v.finish.available f.other = u.available f.other :=
          State.available_congr endCfg (by simp [faults])
        rw [v.finish.availableCount_eq f, u.availableCount_eq f, gone, there, other]
        simp [Nat.add_comm]
      · have now := State.demandNow_congr (s := u.faultFan f .proving) (t := v.finish) (by simp [hv, State.renewWindow])
          (by simp [hv, State.renewWindow]) (by simp [hv, State.renewWindow])
          (endCfg.trans (State.cfg_of_store (by simp)).symm)
          (since.fmaxEff (endCfg.trans (State.cfg_of_store (by simp)).symm))
        obtain ⟨-, now⟩ := now
        rw [now, ← demand]
        simp [hv, State.renewWindow]
      · simp [hv, State.renewWindow]
  · intro s u dt f h hu
    have fitted : (u.tachHigh f).fanFitted f = u.fanFitted f := by cases f <;> rfl
    simp only [exec, execTachPulse, if_pos h, hu, State.countPulse, fitted, bump_eq_min]
    split <;> rfl

end Sys2Proof.Machine
end

section
/-! The dampers' limits and timers (R111 to R115). -/

namespace Sys2Proof.Machine

theorem PerDamper.set_get_self {α : Type} (p : PerDamper α) (d : DamperId) : p.set d (p.get d) = p := by
  cases d with
  | ed f => cases f <;> rfl
  | td k => cases k <;> rfl

/-- R115: a damper that takes a record of the same state tells no fan. -/
theorem State.moveDamper_of_state {s : State} {d : DamperId} {x : DamperUnit} (h : x.state = (s.damper d).state) :
    s.moveDamper d x = s.setDamper d x := by
  unfold State.moveDamper State.handDamper
  cases d with
  | ed f => simp only; rw [if_pos h.symm]
  | td k => rfl

theorem State.moveDamper_self (s : State) (d : DamperId) : s.moveDamper d (s.damper d) = s := by
  rw [State.moveDamper_of_state rfl, State.setDamper, State.damper, PerDamper.set_get_self]

/-- R109: a new record of a damper, fitted as before, gives no damper a new command. -/
theorem State.setDamper_command {s : State} {d : DamperId} {x : DamperUnit} (fitted : x.fitted = (s.damper d).fitted)
    (d' : DamperId) : (s.setDamper d x).effectiveCommand d' = s.effectiveCommand d' :=
  State.effectiveCommand_congr (by rfl) (by rfl) (by rfl) (State.preAlarmHit_congr (by rfl)) (by rfl) (fun _ => by rfl)
    (fun k => by rw [State.setDamper_damper]; split <;> simp [*]) d'

theorem State.DampersFollow.setDamper {s : State} {d : DamperId} {x : DamperUnit} (h : s.DampersFollow)
    (fitted : x.fitted = (s.damper d).fitted)
    (own : x.fitted = true → x.state ≠ .stuck → (s.effectiveCommand d = true ↔ x.state = .opened ∨ x.state = .opening)) :
    (s.setDamper d x).DampersFollow := by
  intro d'
  rw [State.setDamper_command fitted, State.setDamper_damper]
  by_cases hd : d' = d
  · subst hd; simpa using own
  · simpa [hd] using h d'

/-- R115: an extract damper that becomes STUCK faults its fan. -/
theorem State.moveDamper_stuck {s : State} {f : Fan} {x : DamperUnit} (was : (s.damper (.ed f)).state ≠ .stuck)
    (now : x.state = .stuck) : s.moveDamper (.ed f) x = (s.setDamper (.ed f) x).faultFan f .damper := by
  simp only [State.moveDamper, State.handDamper]
  rw [if_neg (by rw [now]; exact was), if_pos now]

/-- R111: a damper that is STUCK stays as the event ends. -/
theorem State.driven_of_stuck {s : State} {d : DamperId} (h : (s.damper d).state = .stuck) : s.driven d = s.damper d :=
  State.driven_of_follow fun _ hn => absurd h hn

/-- R115: what is left as a damper becomes STUCK, of its record, of its fan and of the share. -/
theorem State.finish_of_stuck {s : State} {d : DamperId} {x : DamperUnit} (follow : s.DampersFollow)
    (served : s.RequestsServed) (fitted : x.fitted = (s.damper d).fitted) (was : (s.damper d).state ≠ .stuck)
    (now : x.state = .stuck) :
    (s.moveDamper d x).finish.damper d = x ∧
    (∀ k, d = .td k → (s.moveDamper d x).finish = s.setDamper d x) ∧
    ∀ f, d = .ed f → (s.fan f).state ≠ .faulted →
      ((s.moveDamper d x).finish.fan f).state = .faulted ∧ ((s.moveDamper d x).finish.fan f).cause = some .damper ∧
      ((s.moveDamper d x).finish.fan f).rundown = none ∧ ((s.moveDamper d x).finish.fan f).backoff = none ∧
      ((s.moveDamper d x).finish.share.pass ≠ none ∨ (s.moveDamper d x).finish.share.again = true) := by
  have own : (s.moveDamper d x).damper d = x := by rw [State.moveDamper_damper, if_pos rfl]
  refine ⟨?_, fun k hk => ?_, fun f hf well => ?_⟩
  · rw [State.finish_damper, State.driven_of_stuck (by rw [own, now]), own]
  · subst hk
    exact State.finish_of_settled _ (follow.setDamper fitted fun _ hn => absurd now hn) served
  · subst hf
    rw [State.moveDamper_stuck was now]
    have record := (s.setDamper (.ed f) x).faultFan_fan f .damper well
    obtain ⟨requested, -⟩ := State.faultFan_share (s := s.setDamper (.ed f) x) (c := .damper) well
    rw [State.finish_fan_of_faulted (by rw [record]; rfl) ((s.setDamper (.ed f) x).faultFan_idle well), record]
    exact ⟨rfl, rfl, rfl, rfl, State.finish_of_requested requested⟩

theorem State.damperFault_iff (s : State) :
    s.damperFault = true ↔ ∃ d, (s.damper d).fitted = true ∧ (s.damper d).state = .stuck := by
  simp only [State.damperFault, List.any_eq_true, Bool.and_eq_true, decide_eq_true_eq]
  refine ⟨fun ⟨d, _, h⟩ => ⟨d, h⟩, fun ⟨d, h⟩ => ⟨d, ?_, h⟩⟩
  rcases d with (_ | _) | (_ | _ | _ | _) <;> simp [DamperId.all]

/-- Settles O34: both timers make the damper STUCK (`finish_of_stuck`), each for its own reason. -/
theorem damperTimersStick : Obligations.DamperTimersStick := by
  intro s u dt e d c r h hu follow served fitted hdue hc
  have was : (u.damper d).state ≠ .stuck := by
    rcases hc with ⟨-, hs | hs, -⟩ | ⟨-, hs | hs, -⟩ <;> simp [hs]
  have start : exec c s = .next (u.moveDamper d ((u.damper d).stuckFor r)).finish := by
    rcases hc with ⟨rfl, hs, timer, rfl⟩ | ⟨rfl, hs, timer, rfl⟩
    · simp only [exec, execTravelTimerExpiry, live_released _ _ _ h, hu, fitted, timer, due, hdue, and_true, true_and,
        if_pos hs]
    · simp only [exec, execLimitLossTimerExpiry, live_released _ _ _ h, hu, fitted, timer, due, hdue, and_true, true_and,
        if_pos hs]
  obtain ⟨own, transfer, extract⟩ :=
    State.finish_of_stuck (x := (u.damper d).stuckFor r) follow served rfl was rfl
  refine ⟨_, start, own, (State.damperFault_iff _).mpr ⟨d, by rw [own]; exact ⟨fitted, rfl⟩⟩, fun k hk => ?_,
    fun f hf well => ?_, ?_⟩
  · rw [transfer k hk]
    exact ⟨rfl, rfl, rfl, fun d' hd' => by rw [State.setDamper_damper, if_neg hd']⟩
  · obtain ⟨state, cause, rundown, backoff, pass⟩ := extract f hf well
    exact ⟨state, cause, rundown, backoff, by simp [State.runOutput, state, FanState.turns],
      by simp [State.ownerCommand, state, FanState.wantsOpen], pass⟩
  · simp

/-! ### Limit changes -/

/-- R115: a fan whose damper reaches OPEN. -/
theorem State.moveDamper_opened {s : State} {f : Fan} {x : DamperUnit} (was : (s.damper (.ed f)).state ≠ .opened)
    (now : x.state = .opened) : s.moveDamper (.ed f) x = (s.setDamper (.ed f) x).fanReachesOpen f := by
  simp only [State.moveDamper, State.handDamper]
  rw [if_neg (by rw [now]; exact was), if_neg (by rw [now]; simp), if_pos now]

/-- R115: a fan whose damper leaves OPEN, other than to STUCK. -/
theorem State.moveDamper_leaves {s : State} {f : Fan} {x : DamperUnit} (was : (s.damper (.ed f)).state = .opened)
    (now : x.state ≠ .opened) (stuck : x.state ≠ .stuck) :
    s.moveDamper (.ed f) x = (s.setDamper (.ed f) x).fanLeavesOpen f := by
  simp only [State.moveDamper, State.handDamper]
  rw [if_neg (by rw [was]; exact fun h => now h.symm), if_neg stuck, if_neg now, if_pos was]

/-- R115: a damper that moves without reaching or leaving OPEN, or becoming STUCK, tells no fan. -/
theorem State.moveDamper_apart {s : State} {d : DamperId} {x : DamperUnit} (was : (s.damper d).state ≠ .opened)
    (now : x.state ≠ .opened) (stuck : x.state ≠ .stuck) : s.moveDamper d x = s.setDamper d x := by
  cases d with
  | td k => rfl
  | ed f =>
    simp only [State.moveDamper, State.handDamper]
    rw [if_neg stuck, if_neg now, if_neg was]
    split <;> rfl

/-- R101, R151: an event that starts the claim of one fan alone, outside isolation, ends as it enters the Transmit Unit. -/
theorem State.finish_of_started {s : State} {f : Fan} (follow : s.DampersFollow) (requested : s.share.requested = false)
    (begun : s.fans.begun = (PerFan.all false).set f true) (waits : (s.fan f).claim = .waiting)
    (alone : s.line.isolated = false) :
    s.finish = { s with fans := { s.fans with begun := PerFan.all false }, tx := s.tx.takeClaim f } := by
  rw [State.finish_of_follow _ follow, State.serve_of_none _ (by simpa using requested),
    State.placeClaims_of_one _ _ begun waits, State.giveClaim, if_neg (by simpa using alone)]

/-- R111 to R113: a limit change of a fitted damper is answered with its new record. -/
theorem exec_limitChange {s u v : State} {dt : Tu} {d : DamperId} {w : LimitId} {active : Bool} {l : Limits}
    (h : s.released = true) (hu : s.elapse dt = u) (change : (u.pins.limits.get d).get w = !active)
    (hl : (u.pins.limits.get d).set w active = l) (hv : { u with pins := { u.pins with limits := u.pins.limits.set d l } } = v) :
    exec (.limitChange dt d w active) s = .next (v.answerLimit d w active).finish := by
  have level : ¬ (s.pins.limits.get d).get w = active := by
    rw [show s.pins = u.pins by rw [← hu]; simp, change]
    cases active <;> simp
  simp only [exec, execLimitChange, if_pos h, if_neg level, hu, State.setLimit, hl, hv]

/-- Settles O33, clause by clause: the record that the limits give, and what `moveDamper` tells the fan of it. -/
theorem limitChangeMovesTheDamper : Obligations.LimitChangeMovesTheDamper := by
  intro s u v dt d w active l b put h hu follow served change hl hv hb hput
  have start := exec_limitChange h hu change hl hv
  have limits : v.pins.limits.get d = l := by rw [← hv]; simp
  have own : v.damper d = b := by rw [← hv]; exact hb
  have follow : v.DampersFollow := by rw [← hv]; exact follow
  have served : v.RequestsServed := by rw [← hv]; exact served
  have tu : v.tu = u.tu := by rw [← hv]
  have travel : v.travelExpiry = tuAfter u.tu (u.cfg.travelTimeout * 10000) := by rw [← hv]; rfl
  have put_eq : ∀ x, put x = v.setDamper d x := hput
  have on : b.fitted = true → active = true → v.answerLimit d w active =
      v.moveDamper d (b.onLimit w l v.travelExpiry) := by
    intro hf ha
    rw [State.answerLimit, own, if_pos hf, if_pos ha, limits]
  have off : b.fitted = true → active = false → v.answerLimit d w active =
      v.moveDamper d (b.offLimit w (tuAfter u.tu 10000)) := by
    intro hf ha
    rw [State.answerLimit, own, if_pos hf, if_neg (by simp [ha]), tu]; rfl
  have settled : v.finish = v := State.finish_of_settled _ follow served
  have cmd : b.fitted = true → b.state ≠ .stuck →
      (v.effectiveCommand d = true ↔ b.state = .opened ∨ b.state = .opening) := by
    rw [← own]; exact follow d
  have quiet : ∀ x : DamperUnit, x.fitted = b.fitted →
      (v.effectiveCommand d = true ↔ x.state = .opened ∨ x.state = .opening) →
      (v.setDamper d x).finish = v.setDamper d x := fun x hx hc =>
    State.finish_of_settled _ (follow.setDamper (by rw [own, hx]) fun _ _ => hc) served
  have stays : ∀ x, x = b → (v.moveDamper d x).finish = v := by
    rintro x rfl
    rw [← own, State.moveDamper_self, settled]
  refine ⟨fun hb => ?_, fun hf ha ho hc hs => ?_, fun hf ha hw => ?_, fun hf hw => ⟨fun ha => ?_, fun ha hn => ?_⟩,
    fun hf ha hw => ⟨fun k hk => ?_, fun f hd hcl hr hst => ?_⟩, fun hf hn hw => ?_⟩
  · rw [start]
    by_cases hf : b.fitted = true
    · have stuck : b.state = .stuck := hb.resolve_left (by simp [hf])
      cases active with
      | true => rw [on hf rfl, stays _ (by rw [DamperUnit.onLimit, if_pos stuck])]
      | false => rw [off hf rfl, stays _ (by rw [DamperUnit.offLimit, stuck])]
    · rw [State.answerLimit, own, if_neg hf, settled]
  · have both : b.onLimit w l v.travelExpiry = b.stuckFor .bothLimits := by
      rw [DamperUnit.onLimit, if_neg hs, if_pos (by simp [ho, hc])]
    obtain ⟨now, -, extract⟩ := State.finish_of_stuck (d := d) (x := b.stuckFor .bothLimits) follow served (by rw [own]; rfl)
      (by rwa [own]) rfl
    rw [start, on hf ha, both]
    refine ⟨_, rfl, by simp, now, fun f hd well => ?_⟩
    obtain ⟨state, cause, -⟩ := extract f hd (by rw [← hv]; exact well)
    exact ⟨state, cause⟩
  · set x : DamperUnit := { b with state := if w = .openLimit then .opened else .closed, travel := none, loss := none } with hx
    have arrives : b.onLimit w l v.travelExpiry = x := by
      rw [hx, DamperUnit.onLimit]
      rcases hw with ⟨hs, rfl, far⟩ | ⟨hs, rfl, far⟩ <;> simp [hs, far]
    have rests : (v.setDamper d x).DampersFollow := by
      refine follow.setDamper (by rw [own]) fun _ _ => ?_
      have := follow d (by rw [own, hf])
      rw [own] at this
      rcases hw with ⟨hs, rfl, -⟩ | ⟨hs, rfl, -⟩ <;> simp_all
    rw [start, on hf ha, arrives]
    by_cases hwait : ∃ f, d = .ed f ∧ w = .openLimit ∧ (u.fan f).state = .waitDamper
    · obtain ⟨f, rfl, rfl, waits⟩ := hwait
      have was : b.state ≠ .opened := by rcases hw with ⟨hs, -⟩ | ⟨-, hw, -⟩ <;> simp_all
      set y := ((v.setDamper (.ed f) x).moveFan f .waitSlot).startClaim f with hy
      have waits' : (v.fan f).state = .waitDamper := by rw [← hv]; exact waits
      have told : v.moveDamper (.ed f) x = y := by
        rw [State.moveDamper_opened (by rwa [own]) (by simp [hx]), State.fanReachesOpen, if_pos (by simpa using waits')]
      have follows : y.DampersFollow :=
        rests.of_fan (f := f) (by constructor <;> simp [hy]) (fun g hg => by simp [hy, State.startClaim_fan_of_ne, hg])
          (by simp [hy, waits', FanState.wantsOpen])
      rw [told]
      refine ⟨_, rfl, by simp [hy], ?_, fun g hg _ _ claim alone => ?_, fun none => absurd waits (none f rfl rfl)⟩
      · rw [State.finish_damper, State.driven_of_follow (follows _), State.damper_congr (s := v.setDamper (.ed f) x)
          (by simp [hy])]
        simp
      · obtain rfl := DamperId.ed.inj hg
        have claim' : (v.fan f).claim = .none := by rw [← hv]; exact claim
        have free : (((v.setDamper (.ed f) x).moveFan f .waitSlot).fan f).claim = .none := by
          simp [claim', FanUnit.enter]
        have fan : y.fan f = { ((v.setDamper (.ed f) x).moveFan f .waitSlot).fan f with
            claim := .waiting, backoff := none } := by
          rw [hy, State.startClaim_fan, if_neg (by rw [free]; simp)]
        have ends := State.finish_of_started (f := f) follows (by simpa [hy] using served.1)
          (by rw [hy, State.startClaim_begun (by rw [free]; simp)]; simp [State.setDamper, served.2]) (by rw [fan])
          (by simpa [hy, ← hv] using alone)
        rw [ends, State.fan_mk, State.units_get, fan]
        simp
    · have told : v.moveDamper d x = v.setDamper d x := by
        rcases hw with ⟨hs, rfl, -⟩ | ⟨hs, rfl, -⟩
        · cases d with
          | td k => rfl
          | ed f =>
            rw [State.moveDamper_opened (by rw [own, hs]; simp) (by simp [hx]), State.fanReachesOpen, if_neg]
            intro h
            refine hwait ⟨f, rfl, rfl, ?_⟩
            rw [← hv] at h
            exact h
        · exact State.moveDamper_apart (by rw [own, hs]; simp) (by simp [hx]) (by simp [hx])
      rw [told, State.finish_of_settled _ rests served]
      exact ⟨_, rfl, rfl, by simp, fun f hd ho hs => absurd ⟨f, hd, ho, hs⟩ hwait, fun _ => by rw [← hv]; exact ⟨rfl, rfl⟩⟩
  · have lost : b.offLimit w (tuAfter u.tu 10000) = { b with loss := some (tuAfter u.tu 10000) } := by
      unfold DamperUnit.offLimit
      rcases hw with ⟨hs, rfl⟩ | ⟨hs, rfl⟩ <;> simp [hs]
    rw [start, off hf ha, lost, put_eq, State.moveDamper_of_state (by rw [own]), quiet _ (by rfl)]
    exact cmd hf (by rcases hw with ⟨hs, -⟩ | ⟨hs, -⟩ <;> simp [hs])
  · have back : b.onLimit w l v.travelExpiry = { b with loss := none } := by
      have one : (l.openLimit && l.closedLimit) = false := by simpa using hn
      unfold DamperUnit.onLimit
      rcases hw with ⟨hs, rfl⟩ | ⟨hs, rfl⟩ <;> simp only [hs, one] <;> simp
    rw [start, on hf ha, back, put_eq, State.moveDamper_of_state (by rw [own]), quiet _ (by rfl)]
    exact cmd hf (by rcases hw with ⟨hs, -⟩ | ⟨hs, -⟩ <;> simp [hs])
  · subst hk
    have away : b.onLimit w l v.travelExpiry = { b with
        state := if w = .closedLimit then .opening else .closing, loss := none
        travel := some (tuAfter u.tu (u.cfg.travelTimeout * 10000)) } := by
      rw [DamperUnit.onLimit, travel]
      rcases hw with ⟨hs, rfl, far⟩ | ⟨hs, rfl, far⟩ <;> simp [hs, far]
    rw [start, on hf ha, away, put_eq, State.moveDamper_td, quiet _ (by rfl)]
    rcases hw with ⟨hs, rfl, -⟩ | ⟨hs, rfl, -⟩ <;> simp [cmd hf (by simp [hs]), hs]
  · subst hd hcl
    have opened : b.state = .opened ∧ l.openLimit = false := by
      rcases hw with ⟨hs, -, hl⟩ | ⟨-, hw, -⟩
      · exact ⟨hs, hl⟩
      · cases hw
    obtain ⟨hs, far⟩ := opened
    have away : b.onLimit .closedLimit l v.travelExpiry = { b with
        state := .opening, loss := none, travel := some v.travelExpiry } := by simp [DamperUnit.onLimit, hs, far]
    have turns : (v.fan f).state = .starting ∨ (v.fan f).state = .running := by rw [← hv]; exact hst
    set z := v.setDamper (.ed f) { b with state := .opening, loss := none, travel := some v.travelExpiry } with hz
    have told : (v.moveDamper (.ed f) (b.onLimit .closedLimit l v.travelExpiry)) = z.enterRundown f := by
      have state : (z.fan f).state = (v.fan f).state := rfl
      rw [away, State.moveDamper_leaves (by rw [own, hs]) (by simp) (by simp), ← hz, State.fanLeavesOpen, state]
      rcases turns with h | h <;> rw [h]
    have positive : ¬ z.cfg.runDown = 0 := by
      rw [show z.cfg = u.cfg by rw [hz, ← hv]; rfl]; omega
    have down : z.enterRundown f = (z.moveFan f .rundown).setFan f { (z.moveFan f .rundown).fan f with
        rundown := some (tuAfter u.tu (u.cfg.runDown * 1000)) } := by
      simp only [State.enterRundown, State.setFan_cfg, State.moveFan_cfg, if_neg positive]
      rw [hz, ← hv]; simp [Config.stepTu]; rfl
    have fan : (z.enterRundown f).fan f = { (v.fan f).enter .rundown with
        rundown := some (tuAfter u.tu (u.cfg.runDown * 1000)) } := by
      rw [down]; simp [hz]
    have follows : (z.enterRundown f).DampersFollow := by
      have rests : z.DampersFollow :=
        follow.setDamper (by rw [own]) fun _ _ => by simp [cmd hf (by simp [hs]), hs]
      refine rests.of_fan (f := f) (by constructor <;> simp) (fun g hg => State.enterRundown_fan_of_ne _ hg) ?_
      rw [fan, show (z.fan f).state = (v.fan f).state from rfl]
      rcases turns with h | h <;> rw [h] <;> rfl
    have ends : (z.enterRundown f).finish = z.enterRundown f :=
      State.finish_of_settled _ follows (by
        rw [down]
        have served' : z.RequestsServed := served
        exact ⟨by simpa using served'.1, by simpa using served'.2⟩)
    rw [start, on hf ha, told, ends]
    refine ⟨_, rfl, ?_, by rw [fan]; rfl, by rw [fan], ?_⟩
    · rw [State.damper_congr (s := z) (by simp), hz]; simp
    · simp [State.speedOutput, State.runOutput, fan, FanState.turns]
  · rw [start]
    cases active with
    | true =>
      have one : (l.openLimit && l.closedLimit) = false := by simpa using hn
      rw [on hf rfl, stays]
      unfold DamperUnit.onLimit
      rcases hw with ⟨hs, hw⟩ | ⟨hs, hw⟩ | ⟨hw, -⟩ <;> simp_all
    | false =>
      rw [off hf rfl, stays]
      unfold DamperUnit.offLimit
      rcases hw with ⟨hs, hw⟩ | ⟨hs, hw⟩ | ⟨-, ⟨hs, hw⟩ | ⟨hs, hw⟩⟩ <;> simp [hs, hw]

end Sys2Proof.Machine
end

section
/-! The zone line: idle and start bits, the start of a frame, a stuck line and the status schedule (chapters 8 to 10). -/

namespace Sys2Proof.Machine

/-- R136: the assembly at idle, by its state. -/
theorem Receiver.atIdle_eq (r : Receiver) : r.atIdle =
    match r.asm with
    | .skipping => { r with asm := .ready }
    | .ready => r
    | .tail => { r with asm := .ready }
    | .assembling => if r.mark = .failed then { r with asm := .ready, buffer := [] }
                     else { r with asm := .ready, buffer := [], errors := min 65535 (r.errors + 1) } := by
  unfold Receiver.atIdle Receiver.countCondemned
  cases r.asm with
  | assembling => simp only [bump_eq_min]; split <;> rfl
  | skipping | ready | tail => rfl

/-- R136: the assembly at a start bit that the station does not drive, by its state. -/
theorem Receiver.atStartBit_eq (r : Receiver) : r.atStartBit =
    match r.asm with
    | .skipping => r
    | .ready => { r with asm := .assembling, buffer := [], mark := .none }
    | .assembling => r
    | .tail => { r with asm := .skipping, errors := min 65535 (r.errors + 1) } := by
  unfold Receiver.atStartBit
  cases r.asm with
  | tail => exact bump_eq_min _ ▸ rfl
  | skipping | ready | assembling => rfl

/-- R120: idle on a line that was receiving; the assembly answers it as `r`. -/
theorem exec_lineIdle_of_receiving {s u : State} {dt : Tu} (run : Tu) {r : Receiver} (h : s.released = true)
    (hu : s.elapse dt = u) (hr : u.line.state = .receiving) (answer : u.rx.atIdle = r) :
    exec (.lineIdle ⟨dt, run⟩) s =
      .next { u with line := { u.line with state := .idle, clearRun := u.tu - run }, rx := r } := by
  subst answer
  simp only [exec, execLineIdle, live_released _ _ _ h, hu, if_pos hr]

/-- R120: the start bit of another station; the assembly answers it as `r`. -/
theorem exec_anothersStartBit_of_not_sending {s u : State} {dt : Tu} {r : Receiver} (h : s.released = true)
    (hu : s.elapse dt = u) (hn : u.line.state ≠ .sending) (answer : u.rx.atStartBit = r) :
    exec (.anothersStartBit dt) s = .next { u with line := { u.line with state := .receiving }, rx := r } := by
  subst answer
  simp only [exec, execAnothersStartBit, live_released _ _ _ h, hu, if_neg hn]

/-- Settles O35: the four events of the line and the assembly, by the line's state. -/
theorem idleAndStartBitsMoveTheAssembly : Obligations.IdleAndStartBitsMoveTheAssembly := by
  rintro s u dt run more h hu rfl
  refine ⟨fun hr => ?_, fun hr => ?_, fun hn => ?_, fun hs => ?_⟩
  · exact exec_lineIdle_of_receiving run h hu hr (Receiver.atIdle_eq u.rx)
  · simp only [exec, execLineIdle, live_released _ _ _ h, hu, if_neg hr]
  · exact exec_anothersStartBit_of_not_sending h hu hn (Receiver.atStartBit_eq u.rx)
  · simp only [exec, execAnothersStartBit, live_released _ _ _ h, hu, if_pos hs]

/-! ### The start of a frame -/

theorem Mode.maySend_iff (m : Mode) : m.maySend = true ↔ m ≠ .hold ∧ m ≠ .listen := by cases m <;> simp [Mode.maySend]

/-- R148: with no fire frame pending, a claim that waits in the slot goes first. -/
theorem State.slotContent_of_claim {s : State} {f : Fan} (urgent : s.tx.urgent = none) (slot : s.tx.slot = some ⟨f, .waiting⟩) :
    s.slotContent = some (.claim f (decide (s.zone.mode = .fire))) := by
  rw [State.slotContent, urgent, slot]; rfl

theorem State.slotContent_of_urgent {s : State} {x : Urgent} (urgent : s.tx.urgent = some x) :
    s.slotContent = some (.urgent x) := by
  rw [State.slotContent, urgent]

/-- R148: with neither, a status that is pending. -/
theorem State.slotContent_of_status {s : State} (urgent : s.tx.urgent = none)
    (slot : ∀ f, s.tx.slot ≠ some ⟨f, .waiting⟩) :
    s.slotContent = if s.tx.statusPending then some s.statusContent else none := by
  unfold State.slotContent
  rw [urgent]
  split
  · rename_i h; cases h
  · rename_i f _ h; exact absurd h (slot f)
  · rfl

/-- Settles O36: `nextAttempt` in each mode and under isolation, and what its content's start writes. -/
theorem frameStartTakesTheHighestContent : Obligations.FrameStartTakesTheHighestContent := by
  rintro s u v dt sent st h hu idle stuck rfl hst rfl
  have status : u.statusContent = st := hst
  have begins : ∀ a, u.nextAttempt = some a → exec (.frameStart dt) s = .next (u.beginAttempt a) := by
    intro a ha
    simp only [exec, execFrameStart, live_released _ _ _ h, hu, State.lineOpen, idle, stuck, ha, decide_true, Bool.not_false,
      Bool.and_self, if_true]
  have silent : u.nextAttempt = none → exec (.frameStart dt) s = .next u := by
    intro ha
    simp only [exec, execFrameStart, live_released _ _ _ h, hu, ha, ite_self]
  have open_ : u.line.isolated = false → u.zone.mode ≠ .hold → u.zone.mode ≠ .listen →
      u.nextAttempt = u.slotContent.map fun c => ⟨c, false⟩ := by
    intro hi hh hl
    rw [State.nextAttempt, if_neg (by simp [hi]), if_pos ((Mode.maySend_iff _).mpr ⟨hh, hl⟩)]
  have probe : u.line.isolated = true → u.tx.probeOffer = true → u.nextAttempt = some ⟨u.probeContent, true⟩ := by
    intro hi hp
    rw [State.nextAttempt, if_pos hi, if_pos hp]
  refine ⟨fun hi hh hl => ⟨fun x hx => ?_, fun f hx hf => ?_, fun hx hf hp => ?_, fun hx hf hp => ?_⟩,
    fun hi hp => ⟨fun x hx => ?_, fun hx => ?_⟩, fun hn => ?_⟩
  · rw [begins ⟨.urgent x, false⟩ (by rw [open_ hi hh hl, State.slotContent_of_urgent hx]; rfl)]
    simp [State.beginAttempt, State.contentStarts]
  · rw [begins ⟨.claim f (decide (u.zone.mode = .fire)), false⟩
      (by rw [open_ hi hh hl, State.slotContent_of_claim hx hf]; rfl)]
    simp [State.beginAttempt, State.contentStarts, State.claimStarts, State.setClaim, State.setFan]
  · rw [begins ⟨st, false⟩ (by rw [open_ hi hh hl, State.slotContent_of_status hx hf, if_pos hp, status]; rfl), ← hst]
    simp [State.beginAttempt, State.contentStarts, State.statusStarts, Config.stepTu, Config.spacingTu]
  · exact silent (by rw [open_ hi hh hl, State.slotContent_of_status hx hf, if_neg (by simp [hp])]; rfl)
  · rw [begins _ (probe hi hp), State.probeContent, hx]
    simp [State.beginAttempt, State.contentStarts]
  · rw [begins _ (probe hi hp), State.probeContent, hx, ← hst]
    simp [State.beginAttempt, State.contentStarts, State.statusStarts, State.statusContent, State.ownFlags, Config.stepTu,
      Config.spacingTu]
  · refine silent ?_
    unfold State.nextAttempt
    rcases hn with ⟨hi, hp⟩ | ⟨hi, hm | hm⟩
    · rw [if_pos hi, if_neg (by simp [hp])]
    · rw [if_neg (by simp [hi]), if_neg (by simp [hm, Mode.maySend])]
    · rw [if_neg (by simp [hi]), if_neg (by simp [hm, Mode.maySend])]

end Sys2Proof.Machine
end

section
/-! The ends of an attempt that does not complete, and isolation (R102, R103, R125, R126, R131, R132, R150 to R152). -/

namespace Sys2Proof.Machine

/-! ### Claims that are decided locally -/

/-- R99, R102: a claim that is decided is over, or in BACKOFF. -/
theorem State.decideClaim_claim (s : State) (f : Fan) (e : ClaimEntry) :
    ((s.decideClaim f e).fan f).claim = .none ∨ ((s.decideClaim f e).fan f).claim = .backoff := by
  unfold State.decideClaim State.startFan State.enterBackoff
  (repeat' split) <;> simp [FanUnit.enter]

/-- R103: fan `f` as a claim of fan `g` may have been decided locally. -/
theorem State.claimGoesLocal_fan_of_ne {s : State} {f g : Fan} (h : f ≠ g) (was : Bool) :
    ((s.claimGoesLocal g was).fan f).RanFrom (s.fan f) := by
  unfold State.claimGoesLocal
  split
  · exact State.decideClaim_fan_of_ne h _
  · exact .refl _

theorem State.claimGoesLocal_claim {s : State} {f : Fan} {was : Bool} (h : was = decide ((s.fan f).claim = .waiting)) :
    ((s.claimGoesLocal f was).fan f).claim ≠ .waiting := by
  unfold State.claimGoesLocal
  split
  · rcases s.decideClaim_claim f (s.entryNow s.cfg.station f (decide (s.zone.mode = .fire))) with hc | hc <;>
      simp [State.localClaim, hc]
  · simp_all

/-- R151: the Transmit Unit after every WAITING claim has gone. -/
theorem State.claimsGoLocal_tx_eq (s : State) : s.claimsGoLocal.tx = s.tx.withdrawAll := by
  simp [State.claimsGoLocal]

theorem Transmit.withdrawAll_requests (tx : Transmit) : tx.withdrawAll.requests = ⟨false, false⟩ := by
  unfold Transmit.withdrawAll
  simp only
  split <;> rfl

theorem Transmit.withdrawAll_slot (tx : Transmit) (f : Fan) : tx.withdrawAll.slot ≠ some ⟨f, .waiting⟩ := by
  unfold Transmit.withdrawAll
  simp only
  split
  · simp [Transmit.emptySlot]
  · rename_i h
    intro he
    exact h (by rw [he]; rfl)

theorem Transmit.withdrawAll_slot_of_none {tx : Transmit} (h : tx.slot = none) : tx.withdrawAll.slot = none := by
  simp [Transmit.withdrawAll, h]

/-- R103: after the WAITING claims have been decided none waits. -/
theorem State.claimsGoLocal_claim (s : State) (f : Fan) : (s.claimsGoLocal.fan f).claim ≠ .waiting := by
  cases f with
  | A =>
    rw [State.claimsGoLocal, (State.claimGoesLocal_fan_of_ne (by decide) _).claim]
    exact State.claimGoesLocal_claim rfl
  | B =>
    refine State.claimGoesLocal_claim ?_
    rw [(State.claimGoesLocal_fan_of_ne (by decide) _).claim]
    rfl

/-- R103: a claim that does not wait is left as it stands. -/
theorem State.claimsGoLocal_claim_of_idle {s : State} {f : Fan} (h : (s.fan f).claim ≠ .waiting) :
    (s.claimsGoLocal.fan f).claim = (s.fan f).claim := by
  have idle : ∀ t : State, (t.claimGoesLocal f (decide ((s.fan f).claim = .waiting))).fan f = t.fan f := fun t => by
    rw [State.claimGoesLocal, if_neg (by simpa using h)]
  cases f with
  | A => rw [State.claimsGoLocal, (State.claimGoesLocal_fan_of_ne (by decide) _).claim, idle]; rfl
  | B => rw [State.claimsGoLocal, idle, (State.claimGoesLocal_fan_of_ne (by decide) _).claim]; rfl

/-- R103: a claim that waits, of a fan in WAIT_SLOT, is decided; a claim of the other fan may end the start window. -/
theorem State.claimsGoLocal_fan {s : State} {f : Fan} (waiting : (s.fan f).claim = .waiting)
    (waits : (s.fan f).state = .waitSlot) :
    ∃ v : FanUnit, v.DecidedFrom (s.fan f) ∧ (s.claimsGoLocal.fan f).RanFrom v := by
  have decides : ∀ t : State, t.fan f = s.fan f →
      ((t.claimGoesLocal f (decide ((s.fan f).claim = .waiting))).fan f).DecidedFrom (s.fan f) := by
    intro t ht
    rw [State.claimGoesLocal, if_pos (by simpa using waiting), State.localClaim, ← ht]
    exact State.decideClaim_fan (by rw [ht]; exact waits)
  cases f with
  | A =>
    refine ⟨_, decides { s with tx := s.tx.withdrawAll } rfl, ?_⟩
    rw [State.claimsGoLocal]
    exact State.claimGoesLocal_fan_of_ne (by decide) _
  | B =>
    have first := State.claimGoesLocal_fan_of_ne (s := { s with tx := s.tx.withdrawAll }) (f := .B) (g := .A) (by decide)
      (decide ((s.fan .A).claim = .waiting))
    have same := first.of_not_starting (show (s.fan .B).state ≠ .starting by simp [waits])
    exact ⟨_, decides _ same, .refl _⟩

/-- R101, R102: what is left of a claim that has been decided locally. -/
theorem FanUnit.DecidedFrom.ends {u v w : FanUnit} (h : v.DecidedFrom u) (k : w.RanFrom v) (waits : u.state = .waitSlot) :
    w.claim = .backoff ∧ w.state = .waitSlot ∨ w.claim = .none ∧ (w.state = .starting ∨ w.state = .running) := by
  rcases h with rfl | ⟨b, rfl⟩
  · right
    rcases k with rfl | ⟨-, rfl⟩ <;> simp [FanUnit.enter]
  · left
    rw [k.of_not_starting (by simp [waits])]
    exact ⟨rfl, waits⟩

/-- R103, R151: with no claim waiting anywhere, nothing is decided. -/
theorem State.claimsGoLocal_of_none {s : State} (claims : ∀ f, (s.fan f).claim ≠ .waiting)
    (requests : s.tx.requests = ⟨false, false⟩) (slot : ∀ f, s.tx.slot ≠ some ⟨f, .waiting⟩) : s.claimsGoLocal = s := by
  have idle : ∀ (t : State) (f g : Fan), t.claimGoesLocal f (decide ((s.fan g).claim = .waiting)) = t := fun t f g => by
    rw [State.claimGoesLocal, if_neg (by simpa using claims g)]
  have keep : s.tx.withdrawAll = s.tx := by
    unfold Transmit.withdrawAll
    have : ¬ s.tx.slot.map ClaimSlot.mark = some .waiting := by
      cases hs : s.tx.slot with
      | none => simp
      | some x =>
        intro he
        exact slot x.fan (by rw [hs, ← Option.some.inj he])
    simp only
    rw [if_neg this, show PerFan.all false = s.tx.requests from requests.symm]
  rw [State.claimsGoLocal, idle, idle, keep]

/-! ### The content of an attempt that failed -/

theorem State.urgentReturns_eq (s : State) (x : Urgent) :
    s.urgentReturns x = { s with tx := { s.tx with urgent := some (s.tx.urgent.getD x) } } := by
  unfold State.urgentReturns
  cases h : s.tx.urgent with
  | none => rfl
  | some y => simp only [Option.getD_some]; rw [← h]

theorem State.claimWaitsAgain_eq (s : State) (f : Fan) : s.claimWaitsAgain f = { s with
    fans := { s.fans with units := s.fans.units.set f { s.fan f with claim := .waiting, backoff := none } }
    tx := { s.tx with slot := some ⟨f, .waiting⟩ } } := rfl

theorem Transmit.freeSlot_of_none {tx : Transmit} (h : tx.requests = ⟨false, false⟩) : tx.freeSlot = tx.emptySlot := by
  simp [Transmit.freeSlot, h]

/-- R151, R152: the Transmit Unit as an ABANDONED claim leaves it, and as the fan then claims anew. -/
theorem Transmit.afterAbandoned_eq {tx : Transmit} {f : Fan} {other : Bool}
    (h : tx.requests = (PerFan.all false).set f.other other) (again : Bool) :
    (if again then tx.freeSlot.takeClaim f else tx.freeSlot) = tx.afterAbandoned f other again := by
  cases f <;> cases other <;> cases again <;>
    simp [h, Transmit.freeSlot, Transmit.takeClaim, Transmit.emptySlot, Transmit.afterAbandoned, PerFan.set, PerFan.all,
      Fan.other]

/-- R102, R152: an ABANDONED claim has ended, outside isolation. -/
theorem State.abandonedEnds_eq {s : State} {f : Fan} {other again : Bool} (abandoned : (s.fan f).claim = .abandoned)
    (alone : s.line.isolated = false) (requests : s.tx.requests = (PerFan.all false).set f.other other)
    (waits : decide ((s.fan f).state = .waitSlot) = again) :
    s.dropSlot.abandonedEnds f = { s with
      fans := { s.fans with
        units := s.fans.units.set f { s.fan f with claim := if again then .waiting else .none, backoff := none } }
      tx := s.tx.afterAbandoned f other again } := by
  have drop : (s.dropSlot.fan f) = s.fan f := rfl
  rw [State.abandonedEnds, drop, if_pos abandoned, ← Transmit.afterAbandoned_eq requests]
  cases again with
  | true =>
    rw [if_pos (by simpa using waits), State.handClaim, State.giveClaim, if_neg (by simpa [State.dropSlot] using alone)]
    rfl
  | false => rw [if_neg (by simpa using waits)]; rfl

end Sys2Proof.Machine
end

section
/-! Loss of contention, bit errors and a stuck line (R125, R126, R129 to R132). -/

namespace Sys2Proof.Machine

theorem Content.eq_status {c : Content} (h : c.kind = 3) : ∃ cls demand flags period, c = .status cls demand flags period := by
  cases c with
  | urgent x => cases x <;> cases h
  | claim => cases h
  | status cls demand flags period => exact ⟨_, _, _, _, rfl⟩

@[simp] theorem State.claimLeavesLine_frame (s : State) (f : Fan) :
    (s.claimLeavesLine f).line = s.line ∧ (s.claimLeavesLine f).rx = s.rx ∧ (s.claimLeavesLine f).share = s.share ∧
    (s.claimLeavesLine f).zone = s.zone ∧ (s.claimLeavesLine f).view = s.view ∧
    (s.claimLeavesLine f).monitor = s.monitor ∧ (s.claimLeavesLine f).dampers = s.dampers ∧
    (s.claimLeavesLine f).forces = s.forces ∧ (s.claimLeavesLine f).tx = s.tx.emptySlot := by
  simp [State.claimLeavesLine]

/-- R103, R152: a claim that leaves the line under isolation waits, and is then decided locally. -/
theorem State.claimLeavesLine_of_sending {s : State} {f : Fan} (h : (s.fan f).claim = .sending) :
    (s.claimLeavesLine f).fan f = { s.fan f with claim := .waiting } := by
  simp [State.claimLeavesLine, h]

/-- R103, R152: an ABANDONED claim of a fan that does not wait for a slot is over. -/
theorem State.claimLeavesLine_of_gone {s : State} {f : Fan} (h : (s.fan f).claim = .abandoned)
    (gone : (s.fan f).state ≠ .waitSlot) : (s.claimLeavesLine f).fan f = { s.fan f with claim := .none } := by
  simp [State.claimLeavesLine, h, gone]

/-- R103, R151, R152: a claim on the line of an isolated station that fails or loses contention. -/
theorem State.claimLeavesLine_local (s : State) (f : Fan) :
    (s.claimLeavesLine f).claimsGoLocal.tx.slot = none ∧
    (s.claimLeavesLine f).claimsGoLocal.tx.requests = ⟨false, false⟩ ∧
    (∀ g, ((s.claimLeavesLine f).claimsGoLocal.fan g).claim ≠ .waiting) ∧
    ((s.fan f).claim = .abandoned → (s.fan f).state ≠ .waitSlot →
      ((s.claimLeavesLine f).claimsGoLocal.fan f).claim = .none) := by
  refine ⟨?_, ?_, State.claimsGoLocal_claim _, fun abandoned gone => ?_⟩
  · rw [State.claimsGoLocal_tx_eq]
    exact Transmit.withdrawAll_slot_of_none (by simp [Transmit.emptySlot])
  · rw [State.claimsGoLocal_tx_eq, Transmit.withdrawAll_requests]
  · have none : ((s.claimLeavesLine f).fan f).claim = .none := by
      rw [State.claimLeavesLine_of_gone abandoned gone]
    rw [State.claimsGoLocal_claim_of_idle (by simp [none]), none]

/-! R125: what the loss of contention leaves, by the kind of the content. -/

theorem State.loseContention_urgent {s v : State} {a : Attempt} {x : Urgent} (hv : (s.releaseLine .lost).offerAgain a = v)
    (h : a.content = .urgent x) : s.loseContention a = v.urgentReturns x := by
  rw [State.loseContention, h, hv]

theorem State.loseContention_claim {s v : State} {a : Attempt} {f : Fan} {fire : Bool}
    (hv : (s.releaseLine .lost).offerAgain a = v) (h : a.content = .claim f fire) :
    s.loseContention a = if v.line.isolated then (v.claimLeavesLine f).claimsGoLocal else v.claimLost f := by
  rw [State.loseContention, h, hv]

theorem State.loseContention_status {s v : State} {a : Attempt} (hv : (s.releaseLine .lost).offerAgain a = v)
    (h : a.content.kind = 3) : s.loseContention a = v := by
  obtain ⟨_, _, _, _, hs⟩ := Content.eq_status h
  rw [State.loseContention, hs, hv]

/-- Settles O37: the attempt's content by its kind, and a claim by the mark of its slot and by isolation. -/
theorem contentionLossKeepsTheContent : Obligations.ContentionLossKeepsTheContent := by
  intro s u v dt a h hu requested sending online hv
  have start : exec (.contentionLost dt) s = .next (u.loseContention a).serve := by
    simp only [exec, execContentionLost, live_released _ _ _ h, hu, sending, online]
  have fans : v.fans = u.fans := by rw [← hv]
  have fan : ∀ f, v.fan f = u.fan f := State.fan_congr fans
  have line : v.line.isolated = u.line.isolated := by rw [← hv]
  have tx : v.tx.urgent = u.tx.urgent ∧ v.tx.slot = u.tx.slot ∧ v.tx.requests = u.tx.requests := by
    rw [← hv]; exact ⟨rfl, rfl, rfl⟩
  obtain ⟨urgent, vslot, requests⟩ := tx
  have blocks : v.share = u.share ∧ v.zone = u.zone ∧ v.view = u.view := by rw [← hv]; exact ⟨rfl, rfl, rfl⟩
  obtain ⟨share, zone, view⟩ := blocks
  have quiet : ∀ t : State, t.share = v.share → t.serve = t := fun t ht =>
    State.serve_of_none t (by rw [ht, share]; exact requested)
  refine ⟨fun x hx => ?_, fun hk => ?_, fun f fire hc alone => ⟨fun slot => ?_, fun other again slot ab req waits => ?_⟩,
    fun f fire hc isolated => ?_⟩
  · rw [start, State.loseContention_urgent (v := v) hv hx, State.urgentReturns_eq, urgent,
      quiet { v with tx := { v.tx with urgent := some (u.tx.urgent.getD x) } } rfl]
  · rw [start, State.loseContention_status (v := v) hv hk, quiet _ rfl]
  · have kept : v.slotKept f = true := by simp [State.slotKept, vslot, slot]
    rw [start, State.loseContention_claim (v := v) hv hc, if_neg (by simp [line, alone]), State.claimLost,
      if_pos kept, quiet (v.claimWaitsAgain f) rfl, State.claimWaitsAgain_eq, fan, fans]
  · have dropped : ¬ v.slotKept f = true := by simp [State.slotKept, vslot, slot]
    rw [start, State.loseContention_claim (v := v) hv hc, if_neg (by simp [line, alone]), State.claimLost,
      if_neg dropped, State.abandonedEnds_eq (by rw [fan, ab]) (by rw [line, alone]) (by rw [requests, req]) (by rw [fan, waits]), fan, fans, quiet { v with
        fans := { u.fans with
          units := u.fans.units.set f { u.fan f with claim := if again then .waiting else .none, backoff := none } }
        tx := v.tx.afterAbandoned f other again } rfl]
  · obtain ⟨slot, requests, claims, gone⟩ := v.claimLeavesLine_local f
    rw [start, State.loseContention_claim (v := v) hv hc, if_pos (by rw [line, isolated]), quiet _ (by simp)]
    rw [fan] at gone
    exact ⟨_, rfl, slot, requests, claims, gone, by simp, by simp, by simp [share], by simp [zone], by simp [view]⟩

/-! ### Bit errors -/

/-- R126, R131: what a bit error leaves, with `v` the state of the line and the marks after it. -/
theorem State.failAttempt_eq {s v : State} {a : Attempt} (hv : (s.releaseLine .failed).countFailure = v) :
    s.failAttempt a = (v.contentFails a (s.line.isolated || s.isSixteenth)).isolationAfterError s.isSixteenth := by
  subst hv
  rfl

/-- R132: ISOLATED is set where it was clear. -/
theorem State.setIsolated_eq {s : State} (h : s.line.isolated = false) :
    s.setIsolated = (State.requestPass { s with line := { s.line with isolated := true } }).claimsGoLocal := by
  rw [State.setIsolated, if_neg (by simp [h])]

theorem State.setIsolated_line {s : State} (h : s.line.isolated = false) :
    s.setIsolated.line = { s.line with isolated := true } := by
  rw [State.setIsolated_eq h]; simp [State.requestPass]

theorem State.setIsolated_requested {s : State} (h : s.line.isolated = false) : s.setIsolated.share.requested = true := by
  rw [State.setIsolated_eq h]; simp [State.requestPass]

theorem State.setIsolated_tx {s : State} (h : s.line.isolated = false) : s.setIsolated.tx = s.tx.withdrawAll := by
  rw [State.setIsolated_eq h, State.claimsGoLocal_tx_eq]; rfl

theorem State.setIsolated_claim {s : State} (h : s.line.isolated = false) (f : Fan) :
    (s.setIsolated.fan f).claim ≠ .waiting := by
  rw [State.setIsolated_eq h]; exact State.claimsGoLocal_claim _ f

/-- R102, R152: the third failed attempt of a claim that is not ABANDONED. -/
theorem State.dropSlot_enterBackoff_eq {s : State} {f : Fan} (requests : s.tx.requests = ⟨false, false⟩) :
    s.dropSlot.enterBackoff f = { s with
      fans := { s.fans with
        units := s.fans.units.set f { s.fan f with
          claim := .backoff, backoff := some (tuAfter s.tu (5000 * (1 + s.cfg.station.val % 4))) } }
      tx := { s.tx with slot := none, claimAttempts := 0 } } := by
  rw [State.dropSlot, Transmit.freeSlot_of_none requests]
  rfl

/-- R156: an attempt more of STATUS, or the drop at the third. -/
theorem State.statusFails_eq (s : State) : s.statusFails = { s with
    tx := if s.tx.statusAttempts < 2 then { s.tx with statusAttempts := s.tx.statusAttempts + 1 }
          else { s.tx with statusPending := false, statusAttempts := 0 } } := by
  unfold State.statusFails
  by_cases h : s.tx.statusAttempts < 2
  · rw [if_pos (show _ < Config.attemptLimit by simp only [Config.attemptLimit]; omega), if_pos h]
  · rw [if_neg (show ¬ _ < Config.attemptLimit by simp only [Config.attemptLimit]; omega), if_neg h]

/-- R152: a claim whose attempt failed for the first or the second time. -/
theorem State.claimFails_again {s : State} {f : Fan} (slot : s.tx.slot = some ⟨f, .onLine⟩) (again : s.tx.claimAttempts < 2) :
    s.claimFails f = { s with
      fans := { s.fans with units := s.fans.units.set f { s.fan f with claim := .waiting, backoff := none } }
      tx := { s.tx with slot := some ⟨f, .waiting⟩, claimAttempts := s.tx.claimAttempts + 1 } } := by
  rw [State.claimFails, if_pos (by simp [State.slotKept, slot]),
    if_pos (show _ < Config.attemptLimit by simp only [Config.attemptLimit]; omega)]
  rfl

/-- R102, R152: the third failed attempt of a claim. -/
theorem State.claimFails_third {s : State} {f : Fan} (slot : s.tx.slot = some ⟨f, .onLine⟩) (third : 2 ≤ s.tx.claimAttempts)
    (requests : s.tx.requests = ⟨false, false⟩) :
    s.claimFails f = { s with
      fans := { s.fans with
        units := s.fans.units.set f { s.fan f with
          claim := .backoff, backoff := some (tuAfter s.tu (5000 * (1 + s.cfg.station.val % 4))) } }
      tx := { s.tx with slot := none, claimAttempts := 0 } } := by
  rw [State.claimFails, if_pos (by simp [State.slotKept, slot]),
    if_neg (show ¬ _ < Config.attemptLimit by simp only [Config.attemptLimit]; omega), State.dropSlot_enterBackoff_eq requests]

theorem State.claimFails_abandoned {s : State} {f : Fan} (slot : s.tx.slot = some ⟨f, .abandoned⟩) :
    s.claimFails f = s.dropSlot.abandonedEnds f := by
  rw [State.claimFails, if_neg (by simp [State.slotKept, slot])]

/-- R126, R131: what the sixteenth failure leaves of the content that failed. -/
theorem State.contentFails_isolated_frame (s : State) (a : Attempt) :
    (s.contentFails a true).line = s.line ∧ (s.contentFails a true).rx = s.rx ∧ (s.contentFails a true).share = s.share ∧
    (s.contentFails a true).zone = s.zone ∧ (s.contentFails a true).view = s.view ∧
    (s.contentFails a true).monitor = s.monitor ∧ (s.contentFails a true).dampers = s.dampers ∧
    (s.contentFails a true).forces = s.forces ∧ (s.contentFails a true).tx.onLine = s.tx.onLine ∧
    (s.contentFails a true).tx.statusPending = s.tx.statusPending ∧
    (s.contentFails a true).tx.statusAttempts = s.tx.statusAttempts := by
  unfold State.contentFails
  cases a.content with
  | urgent x => simp [State.urgentReturns_eq]
  | claim f fire => simp [Transmit.emptySlot]
  | status => simp

/-- Settles O38: a bit error under isolation, before the sixteenth failure, and at it. -/
theorem bitErrorsCountTowardIsolation : Obligations.BitErrorsCountTowardIsolation := by
  intro s u v dt a h hu requested sending online hv
  have start : exec (.bitError dt) s = .next (u.failAttempt a).serve := by
    simp only [exec, execBitError, live_released _ _ _ h, hu, sending, online]
  rw [State.failAttempt_eq (v := v) hv] at start
  have fans : v.fans = u.fans := by rw [← hv]
  have fan : ∀ f, v.fan f = u.fan f := State.fan_congr fans
  have line : v.line.isolated = u.line.isolated := by rw [← hv]
  have tx : v.tx.urgent = u.tx.urgent ∧ v.tx.slot = u.tx.slot ∧ v.tx.requests = u.tx.requests ∧
      v.tx.claimAttempts = u.tx.claimAttempts ∧ v.tx.statusAttempts = u.tx.statusAttempts ∧
      v.tx.statusPending = u.tx.statusPending ∧ v.tx.onLine = none := by
    rw [← hv]; exact ⟨rfl, rfl, rfl, rfl, rfl, rfl, rfl⟩
  obtain ⟨urgent, vslot, vrequests, claimAttempts, statusAttempts, statusPending, noLine⟩ := tx
  have cfg : v.cfg = u.cfg := State.cfg_of_store (by rw [← hv])
  have tu : v.tu = u.tu := by rw [← hv]
  have blocks : v.share = u.share ∧ v.zone = u.zone ∧ v.view = u.view ∧ v.monitor = u.monitor ∧ v.dampers = u.dampers ∧
      v.forces = u.forces ∧ v.rx = { u.rx with mark := .failed } := by
    rw [← hv]; exact ⟨rfl, rfl, rfl, rfl, rfl, rfl, rfl⟩
  obtain ⟨share, zone, view, monitor, dampers, forces, rx⟩ := blocks
  have quiet : ∀ t : State, t.share = v.share → t.serve = t := fun t ht =>
    State.serve_of_none t (by rw [ht, share]; exact requested)
  refine ⟨fun isolated claims requests slot => ?_, fun f fire hc isolated => ?_, fun alone few => ?_, fun alone sixteenth => ?_⟩
  · have settles : ∀ t : State, t.fans = v.fans ∧ t.tx.requests = v.tx.requests ∧ t.tx.slot = v.tx.slot ∧
        t.line = v.line ∧ t.share = v.share → (t.isolationAfterError u.isSixteenth).serve = t := by
      rintro t ⟨hf, hr, hs, hl, hsh⟩
      rw [State.isolationAfterError, if_pos (by rw [hl, line, isolated]), State.claimsGoLocal_of_none (fun f => ?_)
        (by rw [hr, vrequests, requests]) (fun f => ?_), quiet t hsh]
      · rw [State.fan_congr hf, fan]; exact claims f
      · rw [hs, vslot]; exact slot f
    refine ⟨fun x hx => ?_, fun hk => ?_⟩
    · rw [start, State.contentFails, hx]
      simp only
      rw [State.urgentReturns_eq, urgent]
      exact congrArg Host.Outcome.next (settles _ ⟨rfl, rfl, rfl, rfl, rfl⟩)
    · obtain ⟨_, _, _, _, hs⟩ := Content.eq_status hk
      rw [start, State.contentFails, hs, isolated]
      exact congrArg Host.Outcome.next (settles _ ⟨rfl, rfl, rfl, rfl, rfl⟩)
  · obtain ⟨slot, requests, claims, gone⟩ := v.claimLeavesLine_local f
    rw [start, State.contentFails, hc, isolated]
    simp only [Bool.true_or, if_true]
    rw [State.isolationAfterError, if_pos (by simp [line, isolated]), quiet _ (by simp)]
    rw [fan] at gone
    exact ⟨_, rfl, slot, requests, claims, gone, by simp, by simp, by simp [share], by simp [zone], by simp [view]⟩
  · have notYet : u.isSixteenth = false := by
      rw [State.isSixteenth]
      exact decide_eq_false (by simp only [Config.failureLimit]; omega)
    rw [alone, notYet, Bool.or_false] at start
    have settles : ∀ t : State, t.line = v.line ∧ t.share = v.share → (t.isolationAfterError false).serve = t := by
      rintro t ⟨hl, hsh⟩
      rw [State.isolationAfterError, if_neg (by simp [hl, line, alone]), if_neg (by simp), quiet t hsh]
    refine ⟨fun x hx => ?_, fun hk probe => ?_, fun f fire hc slot => ⟨fun again => ?_, fun third requests => ?_⟩,
      fun f fire other again hc slot abandoned requests waits => ?_⟩
    · rw [start, State.contentFails, hx]
      simp only
      rw [State.urgentReturns_eq, urgent]
      exact congrArg Host.Outcome.next (settles _ ⟨rfl, rfl⟩)
    · obtain ⟨_, _, _, _, hs⟩ := Content.eq_status hk
      rw [start, State.contentFails, hs]
      simp only [probe, Bool.or_false, Bool.false_eq_true, if_false]
      rw [State.statusFails_eq, statusAttempts]
      exact congrArg Host.Outcome.next (settles _ ⟨rfl, rfl⟩)
    · rw [start, State.contentFails, hc]
      simp only [Bool.false_eq_true, if_false]
      rw [State.claimFails_again (by rw [vslot, slot]) (by rw [claimAttempts]; exact again), fan, fans, claimAttempts]
      exact congrArg Host.Outcome.next (settles _ ⟨rfl, rfl⟩)
    · rw [start, State.contentFails, hc]
      simp only [Bool.false_eq_true, if_false]
      rw [State.claimFails_third (by rw [vslot, slot]) (by rw [claimAttempts]; exact third) (by rw [vrequests, requests]),
        fan, fans, cfg, tu]
      exact congrArg Host.Outcome.next (settles _ ⟨rfl, rfl⟩)
    · rw [start, State.contentFails, hc]
      simp only [Bool.false_eq_true, if_false]
      rw [State.claimFails_abandoned (by rw [vslot, slot]), State.abandonedEnds_eq (by rw [fan, abandoned])
        (by rw [line, alone]) (by rw [vrequests, requests]) (by rw [fan, waits]), fan, fans]
      exact congrArg Host.Outcome.next (settles _ ⟨rfl, rfl⟩)
  · have now : u.isSixteenth = true := by
      rw [State.isSixteenth]
      exact decide_eq_true (by simp only [Config.failureLimit]; omega)
    have vline : v.line = { u.line with state := .receiving, failures := 16 } := by rw [← hv]; simp [sixteenth]
    obtain ⟨cline, crx, cshare, czone, cview, cmonitor, cdampers, cforces, cnoLine, cpending, cattempts⟩ :=
      v.contentFails_isolated_frame a
    rw [now, Bool.or_true, State.isolationAfterError, if_neg (by simp [cline, line, alone]), if_pos rfl] at start
    have idle : (v.contentFails a true).line.isolated = false := by rw [cline, line, alone]
    have claimGone : ∀ f fire, a.content = .claim f fire → v.contentFails a true = v.claimLeavesLine f := by
      intro f fire hc; rw [State.contentFails, hc]; rfl
    have slotGone : ∀ f fire, a.content = .claim f fire → (v.contentFails a true).tx.withdrawAll.slot = none := by
      intro f fire hc
      exact Transmit.withdrawAll_slot_of_none (by rw [claimGone f fire hc]; simp [Transmit.emptySlot])
    have tx : (v.contentFails a true).setIsolated.serve.tx = (v.contentFails a true).tx.withdrawAll := by
      rw [← State.setIsolated_tx idle]; simp
    have fanNow : ∀ f, (v.contentFails a true).setIsolated.serve.fan f =
        ((State.requestPass { v.contentFails a true with
          line := { (v.contentFails a true).line with isolated := true } }).claimsGoLocal).fan f := fun f => by
      rw [← State.setIsolated_eq idle]; exact State.fan_congr (by simp) f
    refine ⟨_, start, by simp [State.setIsolated_line idle, cline, vline], by simp [crx, rx], by rw [tx]; simp [cnoLine, noLine],
      by rw [tx, Transmit.withdrawAll_requests], by rw [tx]; simp [cpending, statusPending], by rw [tx]; simp [cattempts, statusAttempts],
      State.serve_of_requested (State.setIsolated_requested idle), fun f => ?_,
      fun x hx => ?_, fun f fire hc sending waits => ⟨by rw [tx, slotGone f fire hc], ?_⟩,
      fun f fire hc abandoned => ⟨by rw [tx, slotGone f fire hc], fun gone => ?_⟩,
      by simp [czone, zone], by simp [cmonitor, monitor], by simp [cview, view], by simp [cdampers, dampers], by simp [cforces, forces]⟩
    · rw [fanNow]; exact State.claimsGoLocal_claim _ f
    · rw [tx, State.contentFails, hx]
      simp [State.urgentReturns_eq, urgent]
    · rw [fanNow]
      have left : (v.contentFails a true).fan f = { u.fan f with claim := .waiting } := by
        rw [claimGone f fire hc, State.claimLeavesLine_of_sending (by rw [fan, sending]), fan]
      obtain ⟨w, decided, ran⟩ := State.claimsGoLocal_fan (s := State.requestPass { v.contentFails a true with
          line := { (v.contentFails a true).line with isolated := true } }) (f := f) (congrArg FanUnit.claim left)
          ((congrArg FanUnit.state left).trans waits)
      exact decided.ends ran ((congrArg FanUnit.state left).trans waits)
    · have left : ((v.contentFails a true).fan f).claim = .none := by
        rw [claimGone f fire hc, State.claimLeavesLine_of_gone (by rw [fan, abandoned]) (by rw [fan]; exact gone)]
      rw [fanNow]
      exact (State.claimsGoLocal_claim_of_idle (fun waiting => by cases left.symm.trans waiting)).trans left

/-! ### A stuck line and the schedule -/

/-- Settles O39: the entry to isolation by a stuck line, and the end of LINE_STUCK by its guard. -/
theorem stuckLineIsolates : Obligations.StuckLineIsolates := by
  intro s u dt run h hu requested hrun
  obtain ⟨v, hv⟩ : ∃ v, v = { u with line := { u.line with state := u.line.state.underDominant, stuck := true } } := ⟨_, rfl⟩
  have start : exec (.lineStuckDetected dt) s = .next v.setIsolated.serve := by
    simp only [exec, execLineStuckDetected, live_released _ _ _ h, hu, hv]
  have state : u.line.state.underDominant = if u.line.state = .sending then .sending else .receiving := by
    cases u.line.state <;> rfl
  have line : v.line = { u.line with stuck := true, state := if u.line.state = .sending then .sending else .receiving } := by
    rw [hv, ← state]
  have clear : u.clearRunDone = (decide (u.line.state = .idle) && run) := by rw [← hrun]; rfl
  refine ⟨?_, fun stuck idle done => ?_, fun waits => ?_⟩
  · cases alone : u.line.isolated with
    | true =>
      have stays : v.setIsolated.serve = v := by
        rw [State.setIsolated, if_pos (by rw [line, alone]), State.serve_of_none _ (by rw [hv]; exact requested)]
      rw [stays] at start
      have vline : v.line = { u.line with
          stuck := true, isolated := true, state := if u.line.state = .sending then .sending else .receiving } := by
        rw [line, ← alone]
      exact ⟨v, start, vline, fun _ => by rw [hv], fun ha => by simp at ha, by rw [hv], by rw [hv], by rw [hv], by rw [hv], by rw [hv]⟩
    | false =>
      have idle : v.line.isolated = false := by rw [line, alone]
      have tx : v.setIsolated.serve.tx = v.tx.withdrawAll := by rw [← State.setIsolated_tx idle]; simp
      refine ⟨_, start, by simp [State.setIsolated_line idle, line], fun ha => by simp at ha,
        fun _ => ⟨State.serve_of_requested (State.setIsolated_requested idle), by rw [tx, Transmit.withdrawAll_requests],
          fun f => by rw [tx]; exact v.tx.withdrawAll_slot f, fun f => ?_⟩,
        by simp [hv], by simp [hv], by simp [hv], by simp [hv], by rw [tx]; simp [hv]⟩
      have same : v.setIsolated.serve.fan f = v.setIsolated.fan f := State.fan_congr (by simp) f
      rw [same]
      exact State.setIsolated_claim idle f
  · simp only [exec, execLineStuckClear, live_released _ _ _ h, hu, stuck, clear, idle, done, decide_true, Bool.and_self, if_true]
  · have not : (u.line.stuck && u.clearRunDone) = false := by
      rw [clear]
      rcases waits with hs | hs | hs <;> simp [hs]
    simp only [exec, execLineStuckClear, live_released _ _ _ h, hu, not, Bool.false_eq_true, if_false]

theorem State.atProbeInstant_iff (s : State) : s.atProbeInstant = true ↔ s.tu.toNat % 10000 = 250 * s.cfg.station.val :=
  decide_eq_true_iff

/-- R26: the service of a request writes the Share Computer's block alone. -/
theorem State.serve_eq (s : State) : s.serve = { s with share := s.serve.share } := by
  unfold State.serve
  split
  · split <;> rfl
  · rfl

/-- Settles O44: the heartbeat's pass by `serve_of_request`, and the probe instant by its guard. -/
theorem statusScheduleKeepsTime : Obligations.StatusScheduleKeepsTime := by
  intro s u dt h hu requested
  refine ⟨fun e he hr => ?_, fun e he hr => ?_, fun instant isolated stuck hold listen line => ?_, fun line => ?_, fun not => ?_⟩
  · obtain ⟨v, hv⟩ : ∃ v, v = u.startHeartbeat.requestPass := ⟨_, rfl⟩
    have asked : v.share.requested = true := by rw [hv]; rfl
    have start : exec (.heartbeatExpiry dt) s = .next v.serve := by
      simp only [exec, execHeartbeatExpiry, live_released _ _ _ h, hu, due, he, hr, if_true, hv]
    have share : v.share = { u.share with requested := true } := by rw [hv]; rfl
    have back : { u.share with requested := false } = u.share := by rw [← requested]
    have valid : v.recordValid = u.recordValid := by rw [hv]; rfl
    obtain ⟨starts, waits⟩ := State.serve_of_request v asked
    have passed : u.share.pass = none → u.recordValid = true → v.serve.share = { u.share with
        pass := some { cls := u.share.cls, demand := u.share.demand, fmax := u.fmaxEff, isolated := u.line.isolated,
                       capacity := u.cfg.capacity, share := u.cfg.isolatedShare, started := u.tu }
        again := false } := fun none ok => by
      rw [starts (by rw [share]; exact none) (by rw [valid, ok]), hv]
      simp only [requested]
      rfl
    refine ⟨v.serve, start, by simp [hv, State.startHeartbeat, State.requestPass, Config.stepTu],
      fun none ok => ⟨_, passed none ok, rfl, rfl, rfl, rfl, rfl⟩, fun busy => ?_, ?_⟩
    · rw [waits (by rw [share, valid]; exact busy)]
      simp only [share, ← requested]
    · rw [v.serve_eq, hv]
      rfl
  · simp only [exec, execSpacingTimerExpiry, live_released _ _ _ h, hu, due, he, hr, if_true]
  · have go : (u.atProbeInstant && u.line.isolated && !u.line.stuck && u.zone.mode.maySend && u.tx.onLine.isNone) = true := by
      simp [u.atProbeInstant_iff, instant, isolated, stuck, (Mode.maySend_iff u.zone.mode).mpr ⟨hold, listen⟩, line]
    simp only [exec, execProbeInstant, live_released _ _ _ h, hu, go, if_true]
  · have stay : (u.atProbeInstant && u.line.isolated && !u.line.stuck && u.zone.mode.maySend && u.tx.onLine.isNone) = false := by
      simp [Option.isNone_eq_false_iff, Option.isSome_iff_ne_none, line]
    simp only [exec, execProbeInstant, live_released _ _ _ h, hu, stay, Bool.false_eq_true, if_false]
  · have stay : (u.atProbeInstant && u.line.isolated && !u.line.stuck && u.zone.mode.maySend && u.tx.onLine.isNone) = false := by
      rcases not with ht | hi | hs | hm | hm
      · simp [Bool.eq_false_iff.mpr (mt u.atProbeInstant_iff.mp ht)]
      all_goals simp [*, Mode.maySend]
    simp only [exec, execProbeInstant, live_released _ _ _ h, hu, stay, Bool.false_eq_true, if_false]

end Sys2Proof.Machine
end

section
/-! Frames: the check, the judgement of a whole frame, and what a receiver reads back (8.3, 8.5, 9.6). -/

namespace Sys2Proof.Machine

/-- R123: the check's two characters are those sent when the check is their field. -/
theorem crcChars_eq_iff (cs : List Byte) (hi lo : Byte) : crcChars cs = [hi, lo] ↔ crc cs = hi ++ lo := by
  simp only [crcChars, List.cons.injEq, and_true]
  constructor
  · rintro ⟨h, l⟩
    rw [← h, ← l]
    apply BitVec.eq_of_getLsbD_eq
    intro i hi
    simp only [BitVec.getLsbD_append, BitVec.getLsbD_extractLsb']
    by_cases hlt : i < 8
    · simp [hlt]
    · simp [hlt, show i - 8 < 8 by omega, show 8 + (i - 8) = i by omega]
  · intro h
    rw [h]
    constructor <;> (apply BitVec.eq_of_getLsbD_eq; intro i hb)
    · have e : (hi ++ lo : BitVec 16).getLsbD (8 + i) = _ := BitVec.getLsbD_append
      rw [BitVec.getLsbD_extractLsb', e]
      simp [hb]
    · have e : (hi ++ lo : BitVec 16).getLsbD (0 + i) = _ := BitVec.getLsbD_append
      rw [BitVec.getLsbD_extractLsb', e]
      simp [hb]

/-- R121, R122: a payload of its kind's length has the kind's fields. -/
theorem payloadFields_isSome {kind : Nat} {payload : List Byte} (hk : kind < 4) (h : payload.length = payloadLength kind) :
    ∃ body, payloadFields kind payload = some body := by
  have hk' : kind = 0 ∨ kind = 1 ∨ kind = 2 ∨ kind = 3 := by omega
  rcases hk' with rfl | rfl | rfl | rfl
  · obtain ⟨a, b, c, rfl⟩ := List.length_eq_three.mp h; exact ⟨_, rfl⟩
  · obtain ⟨a, rfl⟩ := List.length_eq_one_iff.mp h; exact ⟨_, rfl⟩
  · obtain ⟨a, b, rfl⟩ := List.length_eq_two.mp h; exact ⟨_, rfl⟩
  · obtain ⟨a, t, rfl⟩ := List.exists_cons_of_length_eq_add_one (n := 4) h
    obtain ⟨b, t, rfl⟩ := List.exists_cons_of_length_eq_add_one (n := 3) (by simpa [payloadLength] using h)
    obtain ⟨c, d, e, rfl⟩ := List.length_eq_three.mp (by simpa [payloadLength] using h)
    exact ⟨_, rfl⟩

/-- R128: the judgement of a whole frame whose identifier and length pass, by its check. -/
theorem judgeFrame_whole {id len hi lo : Byte} {payload : List Byte} {body : HeardBody} (hid : id.toNat < 128)
    (hlen : len.toNat = payloadLength (id.toNat / 32)) (hp : payload.length = len.toNat)
    (hb : payloadFields (id.toNat / 32) payload = some body) :
    judgeFrame (id :: len :: payload ++ [hi, lo]) =
      if crc (id :: len :: payload) = hi ++ lo then .valid ⟨identifierOrigin id, body⟩ else .bad := by
  have long : payload.length = payloadLength (id.toNat / 32) := hp.trans hlen
  simp only [judgeFrame, List.cons_append, if_neg (show ¬ 128 ≤ id.toNat by omega), hlen, ne_eq, not_true_eq_false, if_false,
    List.length_append, long, List.length_cons, List.length_nil, judgeCheck]
  rw [← long, List.take_left, List.drop_left]
  simp only [crcChars_eq_iff, hb]

theorem crc_of_digits : crc [0x31, 0x32, 0x33, 0x34, 0x35, 0x36, 0x37, 0x38, 0x39] = 0x29B1 := by
  simp only [crc, List.foldl_cons, List.foldl_nil,
    show crcChar 0xFFFF 0x31 = 0xC782 by decide,
    show crcChar 0xC782 0x32 = 0x3DBA by decide,
    show crcChar 0x3DBA 0x33 = 0x5BCE by decide,
    show crcChar 0x5BCE 0x34 = 0x5349 by decide,
    show crcChar 0x5349 0x35 = 0x4560 by decide,
    show crcChar 0x4560 0x36 = 0x2EF4 by decide,
    show crcChar 0x2EF4 0x37 = 0x7718 by decide,
    show crcChar 0x7718 0x38 = 0xA12B by decide,
    show crcChar 0xA12B 0x39 = 0x29B1 by decide]

/-! ### Condemned frames -/

/-- Settles O40: condemnation by the assembly's state, and the judgement of a whole frame. -/
theorem condemnedFramesAreCountedOnce : Obligations.CondemnedFramesAreCountedOnce := by
  refine ⟨fun s u dt chars framing h hu => ⟨fun bad => ?_, fun heard valid => ?_⟩, fun id len hi lo payload hp => ⟨?_, ?_, ?_⟩⟩
  · have guard : (framing || decide (judgeFrame chars = .bad)) = true := by simpa using bad
    have start : exec (.frameCondemned dt chars framing) s = .next u.condemnFrame := by
      simp only [exec, execFrameCondemned, live_released _ _ _ h, hu, guard, if_true]
    refine ⟨fun asm mark => ?_, fun asm mark => ?_, fun asm mark => ?_, fun asm => ?_⟩ <;> rw [start, State.condemnFrame]
    · rw [if_pos ⟨asm, mark⟩]
    · rw [if_neg (by simp [mark]), Receiver.condemn, asm]
      simp [Receiver.countCondemned, mark]
    · rw [if_neg (by rcases mark with hm | hm <;> simp [hm]), Receiver.condemn, asm]
      rcases mark with hm | hm <;> simp [Receiver.countCondemned, hm, bump_eq_min]
    · rw [if_neg (by simp [asm]), Receiver.condemn, asm]
      simp [bump_eq_min]
  · simp only [exec, execFrameCondemned, live_released _ _ _ h, hu, valid, reduceCtorEq, decide_false, Bool.or_false,
      Bool.false_eq_true, if_false]
  · constructor
    · intro bad
      by_contra none
      simp only [not_or, not_le, ne_eq, not_not] at none
      obtain ⟨hid, hlen, hcheck⟩ := none
      obtain ⟨body, hb⟩ := payloadFields_isSome (kind := id.toNat / 32) (by omega) (hp.trans hlen)
      rw [judgeFrame_whole hid hlen hp hb, if_pos hcheck] at bad
      cases bad
    · intro fails
      by_cases hid : 128 ≤ id.toNat
      · simp only [judgeFrame, List.cons_append, if_pos hid]
      by_cases hlen : len.toNat = payloadLength (id.toNat / 32)
      · obtain ⟨body, hb⟩ := payloadFields_isSome (kind := id.toNat / 32) (by omega) (hp.trans hlen)
        rw [judgeFrame_whole (by omega) hlen hp hb, if_neg (by tauto)]
      · simp only [judgeFrame, List.cons_append, if_neg hid, if_pos hlen]
  · intro heard valid
    by_cases hid : 128 ≤ id.toNat
    · simp [judgeFrame, hid] at valid
    by_cases hlen : len.toNat = payloadLength (id.toNat / 32)
    · obtain ⟨body, hb⟩ := payloadFields_isSome (kind := id.toNat / 32) (by omega) (hp.trans hlen)
      rw [judgeFrame_whole (by omega) hlen hp hb] at valid
      split at valid
      · cases valid; rfl
      · cases valid
    · simp [judgeFrame, hid, hlen] at valid
  · exact crc_of_digits

/-! ### The frame of a content -/

theorem char1_toNat {n : Nat} (h : n < 256) : (char1 n).toNat = n := by
  simp only [char1, BitVec.toNat_ofNat]
  omega

theorem Content.kind_lt (c : Content) : c.kind < 4 := by
  cases c with
  | urgent x => cases x <;> simp [Content.kind]
  | claim => simp [Content.kind]
  | status => simp [Content.kind]

theorem Content.payload_length (c : Content) : c.payload.length = payloadLength c.kind := by
  cases c with
  | urgent x => cases x <;> rfl
  | claim => rfl
  | status => rfl

theorem payloadLength_le (k : Nat) : payloadLength k ≤ 5 := by
  unfold payloadLength
  split <;> decide

/-- R121, R128: the frame that carries a content passes the checks, with the fields of its payload. -/
theorem judgeFrame_frameChars {o : Station} {c : Content} {body : HeardBody}
    (h : payloadFields c.kind c.payload = some body) : judgeFrame (frameChars o c) = .valid ⟨o, body⟩ := by
  have ho := o.isLt
  have hk := c.kind_lt
  have id : (char1 (c.kind * 32 + o.val)).toNat = c.kind * 32 + o.val := char1_toNat (by omega)
  have kind : (char1 (c.kind * 32 + o.val)).toNat / 32 = c.kind := by omega
  have len : (char1 (payloadLength c.kind)).toNat = payloadLength c.kind :=
    char1_toNat (by have := payloadLength_le c.kind; omega)
  have whole := judgeFrame_whole (id := char1 (c.kind * 32 + o.val)) (len := char1 (payloadLength c.kind))
    (hi := (crc (frameHead o c)).extractLsb' 8 8) (lo := (crc (frameHead o c)).extractLsb' 0 8) (payload := c.payload)
    (body := body) (by omega) (by rw [len, kind]) (by rw [len, c.payload_length]) (by rw [kind, h])
  have agrees : crc (char1 (c.kind * 32 + o.val) :: char1 (payloadLength c.kind) :: c.payload) = _ :=
    (crcChars_eq_iff (frameHead o c) _ _).mp rfl
  rw [if_pos agrees] at whole
  have origin : identifierOrigin (char1 (c.kind * 32 + o.val)) = o := Fin.ext (by
    simp only [identifierOrigin]; omega)
  rw [origin] at whole
  exact whole

theorem field16_char2 {n : Nat} (h : n < 65536) : field16 (char1 (n / 256)) (char1 n) = BitVec.ofNat 16 n := by
  apply BitVec.eq_of_toNat_eq
  have e : (char1 (n / 256) ++ char1 n : BitVec 16).toNat = (char1 (n / 256)).toNat <<< 8 ||| (char1 n).toNat :=
    BitVec.toNat_append _ _
  have low : (char1 n).toNat < 2 ^ 8 := (char1 n).isLt
  rw [field16, e, ← Nat.shiftLeft_add_eq_or_of_lt low, Nat.shiftLeft_eq, char1_toNat (by omega)]
  simp only [char1, BitVec.toNat_ofNat]
  omega

/-- R122, R142: the flags character reads back as the flags, with its high bits 0. -/
theorem flagsOf_code (f : PeerFlags) : flagsOf (char1 f.code) = f ∧ (char1 f.code).toNat < 16 := by
  obtain ⟨a, b, c, d⟩ := f
  revert a b c d
  decide

/-- Settles O60: each kind's payload reads back as its fields. -/
theorem framesReadBackWhole : Obligations.FramesReadBackWhole := by
  intro o
  refine ⟨fun cause demand hd => ?_, fun source => judgeFrame_frameChars rfl,
    fun fan fire => ⟨char1 (fanCode fan), char1 (weight fire 1), judgeFrame_frameChars rfl, ?_, ?_⟩,
    fun cls demand flags period hd hp => ⟨char1 cls.num, char1 flags.code, char1 period, ?_, ?_, (flagsOf_code flags).1,
      char1_toNat hp, (flagsOf_code flags).2⟩⟩
  · rw [← field16_char2 hd]; exact judgeFrame_frameChars rfl
  · cases fan <;> rfl
  · cases fire <;> rfl
  · rw [← field16_char2 hd]; exact judgeFrame_frameChars rfl
  · cases cls <;> rfl

/-! ### The adjacency filters -/

theorem getLsbD_five_ones (b : Nat) : (31 : Byte).getLsbD b = decide (b < 5) := by
  by_cases hb : b < 8
  · interval_cases b <;> rfl
  · rw [BitVec.getLsbD_of_ge _ _ (by omega), decide_eq_false (by omega)]

/-- R141: an origin matches a filter when it agrees with the value in every bit of the mask. -/
theorem Filter.matches_iff (f : Filter) (o : Station) :
    f.matches o = true ↔ ∀ b < 5, f.mask.getLsbD b = true → o.val.testBit b = f.value.getLsbD b := by
  have bit : ∀ b, ((BitVec.ofNat 8 o.val ^^^ f.value) &&& f.mask &&& 31).getLsbD b =
      ((((BitVec.ofNat 8 o.val).getLsbD b ^^ f.value.getLsbD b) && f.mask.getLsbD b) && decide (b < 5)) := fun b => by
    rw [BitVec.getLsbD_and, BitVec.getLsbD_and, BitVec.getLsbD_xor, getLsbD_five_ones]
  have own : ∀ b < 5, (BitVec.ofNat 8 o.val).getLsbD b = o.val.testBit b := fun b hb => by
    rw [BitVec.getLsbD_ofNat, decide_eq_true (show b < 8 by omega), Bool.true_and]
  rw [Filter.matches, decide_eq_true_iff]
  constructor
  · intro h b hb hm
    have zero := bit b
    rw [h, own b hb, hm, decide_eq_true hb] at zero
    simpa using zero
  · intro h
    apply BitVec.eq_of_getLsbD_eq
    intro b _
    rw [bit b]
    by_cases hb : b < 5
    · rw [own b hb]
      cases hm : f.mask.getLsbD b with
      | false => simp
      | true => simp [h b hb hm]
    · simp [hb]

/-- R141: the match of the filter at an index, if one counts there. -/
def matchesAt (fs : List Filter) (o : Station) (i : FilterIx) : Bool := (fs[i.val]?).any (·.matches o)

theorem hitOf_eq (fs : List Filter) (o : Station) : hitOf fs o = (List.finRange 6).find? (matchesAt fs o) := by
  unfold hitOf
  congr 1
  funext i
  unfold matchesAt
  cases fs[i.val]? <;> rfl

theorem matchesAt_iff (fs : List Filter) (o : Station) (i : FilterIx) :
    matchesAt fs o i = true ↔ ∃ h : i.val < fs.length, fs[i.val].matches o = true := by
  unfold matchesAt
  by_cases h : i.val < fs.length
  · simp [h]
  · simp [h]

/-- Settles O45: `hitOf` is the first match of a search over the six indices. -/
theorem hitIsTheLowestMatch : Obligations.HitIsTheLowestMatch := by
  intro fs o hl
  refine ⟨fun f => f.matches_iff o, fun i => ?_, ?_, rfl⟩
  · rw [hitOf_eq, List.find?_eq_some_iff_getElem]
    constructor
    · rintro ⟨hm, n, hn, rfl, before⟩
      simp only [List.getElem_finRange] at hm before ⊢
      obtain ⟨hi, hm⟩ := (matchesAt_iff fs o _).mp hm
      refine ⟨hi, hm, fun j hj hji => ?_⟩
      have not := before j hji
      rw [Bool.not_eq_true', ← Bool.not_eq_true, matchesAt_iff] at not
      simpa [hj] using not
    · rintro ⟨hi, hm, before⟩
      refine ⟨(matchesAt_iff fs o i).mpr ⟨hi, hm⟩, i.val, by simp, by simp, fun j hji => ?_⟩
      rw [List.getElem_finRange, Bool.not_eq_true', ← Bool.not_eq_true, matchesAt_iff]
      rintro ⟨hj, hjm⟩
      simp [before j hj hji] at hjm
  · rw [hitOf_eq, List.find?_eq_none]
    constructor
    · intro none f hf
      obtain ⟨n, hn, rfl⟩ := List.getElem_of_mem hf
      have := none ⟨n, by omega⟩ (List.mem_finRange _)
      rw [matchesAt_iff] at this
      simpa [hn] using this
    · intro none i _ hm
      obtain ⟨hi, hm⟩ := (matchesAt_iff fs o i).mp hm
      simp [none _ (List.getElem_mem hi)] at hm

end Sys2Proof.Machine
end

section
/-! Arrivals: heard frames, heard claims and the own echo (9.2 to 9.7). -/

namespace Sys2Proof.Machine

/-- R138: a valid frame that is not the own one arrives. -/
theorem State.frameCompletes_heard {s : State} {chars : List Byte} {h : Heard} (mark : s.rx.mark ≠ .sending)
    (valid : judgeFrame chars = .valid h) : s.frameCompletes chars = s.arrive chars h := by
  unfold State.frameCompletes
  cases hm : s.rx.mark with
  | sending => exact absurd hm mark
  | none | lost | failed => simp only [valid]

/-- R138: the command of a heard frame, with `v` the state of the assembly after it. -/
theorem exec_frameArrival_heard {s u v : State} {dt : Tu} {chars : List Byte} {h : Heard} (released : s.released = true)
    (hu : s.elapse dt = u) (asm : u.rx.asm = .assembling) (mark : u.rx.mark ≠ .sending)
    (valid : judgeFrame chars = .valid h) (hv : { u with rx := { u.rx with asm := .tail, buffer := chars } } = v) :
    exec (.frameArrival dt chars) s = .next (v.takeHeard h).serve := by
  subst hv
  simp only [exec, execFrameArrival, live_released _ _ _ released, hu, asm, if_true, State.frameCompletes_heard mark valid]
  rfl

/-- R140: a frame that bears the own number. -/
theorem State.takeHeard_own {s : State} {h : Heard} (valid : s.recordValid = true) (own : h.origin = s.cfg.station) :
    s.takeHeard h = { s with rx := { s.rx with duplicate := true } } := by
  rw [State.takeHeard, if_pos ⟨valid, own⟩]

/-- R142, R143: a frame of another station that a FIFO keeps. -/
theorem State.takeHeard_fifo {s : State} {o : Station} {b : HeardBody} {x : FifoBody}
    (other : s.recordValid = false ∨ o ≠ s.cfg.station) (hx : fifoBody b = some x) :
    s.takeHeard ⟨o, b⟩ = { s with rx := s.rx.route ⟨o, hitOf s.cfg.filters o, s.tu, x⟩ } := by
  rw [State.takeHeard, if_neg (by simpa [or_iff_not_imp_left] using other)]
  cases b with
  | startClaim => cases hx
  | fireAlarm | fireReset | zoneStatus => simp only [hx]

/-- R98: a START_CLAIM of another station. -/
theorem State.takeHeard_claim {s : State} {o : Station} {fan fire : Byte}
    (other : s.recordValid = false ∨ o ≠ s.cfg.station) :
    s.takeHeard ⟨o, .startClaim fan fire⟩ = s.heardClaim o fan fire := by
  rw [State.takeHeard, if_neg (by simpa [or_iff_not_imp_left] using other)]

/-- R143: a ZONE_STATUS joins FIFO B or is lost. -/
theorem Receiver.joinB_eq (r : Receiver) (e : FifoEntry) :
    r.joinB e = if r.fifoB.length < 8 then { r with fifoB := r.fifoB ++ [e] }
                else { r with lost := min 65535 (r.lost + 1) } := by
  rw [Receiver.joinB, Receiver.loseFrame, bump_eq_min]
  rfl

/-- R143: any other frame joins FIFO A, else FIFO B, or is lost. -/
theorem Receiver.route_eq {r : Receiver} {e : FifoEntry} (h : ∀ a b c d, e.body ≠ .zoneStatus a b c d) :
    r.route e = if r.fifoA.length < 2 then { r with fifoA := r.fifoA ++ [e] } else r.joinB e := by
  unfold Receiver.route
  cases hb : e.body with
  | zoneStatus a b c d => exact absurd hb (h a b c d)
  | fireAlarm | fireReset => rfl

/-- Settles O42: `takeHeard` by the frame's origin and kind. -/
theorem heardFramesAreRouted : Obligations.HeardFramesAreRouted := by
  intro s u v dt chars o b k h hu requested asm mark valid hv hk
  have start := exec_frameArrival_heard h hu asm mark valid hv
  have cfg : v.cfg = u.cfg := State.cfg_of_store (by rw [← hv])
  have ok : v.recordValid = u.recordValid := by rw [← hv]; rfl
  have tu : v.tu = u.tu := by rw [← hv]
  have rx : v.rx.fifoA = u.rx.fifoA ∧ v.rx.fifoB = u.rx.fifoB ∧ v.rx.lost = u.rx.lost ∧ v.rx.errors = u.rx.errors := by
    rw [← hv]; exact ⟨rfl, rfl, rfl, rfl⟩
  obtain ⟨fifoA, fifoB, lost, errors⟩ := rx
  have quiet : ∀ t : State, t.share = v.share → t.serve = t := fun t ht =>
    State.serve_of_none t (by rw [ht, ← hv]; exact requested)
  have entry : ∀ x, (⟨o, hitOf v.cfg.filters o, v.tu, x⟩ : FifoEntry) = k x := fun x => by rw [hk, cfg, tu]
  refine ⟨fun good own => ?_, fun other => ?_⟩
  · rw [start, State.takeHeard_own (by rw [ok, good]) (by rw [cfg, ← own])]
    exact congrArg Host.Outcome.next (quiet _ rfl)
  have other' : v.recordValid = false ∨ o ≠ v.cfg.station := by rw [ok, cfg]; exact other
  refine ⟨fun x hx => ?_, fun cls demand flags period hb => ?_, fun fan fire hb => ⟨fun bad => ?_, fun good range => ?_⟩⟩
  · have body : fifoBody b = some x := by
      rcases hx with ⟨_, rfl, rfl⟩ | ⟨rfl, rfl⟩ <;> rfl
    have notStatus : ∀ a b c d, x ≠ .zoneStatus a b c d := by
      rintro a b c d rfl
      rcases hx with ⟨_, _, he⟩ | ⟨_, he⟩ <;> cases he
    rw [start, State.takeHeard_fifo other' body, entry, Receiver.route_eq (by rw [hk]; exact notStatus),
      Receiver.joinB_eq, ← fifoA, ← fifoB, ← lost]
    exact congrArg Host.Outcome.next (quiet _ rfl)
  · rw [start, State.takeHeard_fifo other' (by rw [hb]; rfl), entry, Receiver.route, hk]
    simp only
    rw [Receiver.joinB_eq, ← fifoB, ← lost, hk]
    exact congrArg Host.Outcome.next (quiet _ rfl)
  · rw [start, hb, State.takeHeard_claim other', State.heardClaim, if_neg (by simp [ok, bad]), quiet _ rfl]
  · rw [start, hb, State.takeHeard_claim other', State.heardClaim, if_pos (by rw [ok, good]), if_neg (by omega), State.countError,
      bump_eq_min, errors]
    exact congrArg Host.Outcome.next (quiet _ rfl)

/-! ### Heard claims -/

/-- R99: the removal of an entry of another station ends no window. -/
theorem State.EndsNoWindow.of_other {s : State} {e : ClaimEntry} (h : e.origin ≠ s.cfg.station) : s.EndsNoWindow e :=
  fun own => absurd own.1 h

/-- R99, R100: a claim admitted to a full list, which ends no window, drops the head. -/
theorem State.takeEntry_of_full {s : State} {e x : ClaimEntry} {rest : List ClaimEntry} (quiet : s.EndsNoWindow e)
    (yes : s.entryAdmitted e = true) (starts : s.startsWithout e = x :: rest) (full : 16 ≤ (s.startsWithout e).length) :
    s.takeEntry e = State.handRemoval { s with fans := { s.fans with starts := rest ++ [e] } } x := by
  rw [State.takeEntry, ← State.entryAdmitted, if_pos yes, State.dropSame_of_quiet quiet]
  exact State.appendClaim_of_full starts full

theorem State.handRemoval_starts (s : State) (e : ClaimEntry) : (s.handRemoval e).fans.starts = s.fans.starts := by
  unfold State.handRemoval
  split <;> simp

/-- Settles O43: `takeEntry` of a claim of another station, by its admission and the room of the list. -/
theorem heardClaimsAreAdmitted : Obligations.HeardClaimsAreAdmitted := by
  intro s u v dt chars o fan fire x l h hu requested asm mark valid hv ok other hfan hfire hx hl
  have start := exec_frameArrival_heard h hu asm mark valid hv
  have fans : v.fans = u.fans := by rw [← hv]
  have cfg : v.cfg = u.cfg := State.cfg_of_store (by rw [← hv])
  have good : v.recordValid = true := by rw [← ok, ← hv]; rfl
  have quiet : ∀ t : State, t.share = v.share → t.serve = t := fun t ht =>
    State.serve_of_none t (by rw [ht, ← hv]; exact requested)
  have entry : v.entryNow o (fanOfNum fan.toNat) (decide (fire.toNat = 1)) = x := by
    rw [hx, ← hv]; rfl
  rw [State.takeHeard_claim (by rw [cfg]; exact .inr other), State.heardClaim, if_pos good, if_pos ⟨hfan, hfire⟩, entry] at start
  have ends : v.EndsNoWindow x := .of_other (by rw [hx, cfg]; exact other)
  have starts : v.startsWithout x = l := by
    rw [State.startsWithout_eq, fans, ← hl, hx]
  have admitted : v.entryAdmitted x = true ↔ fire.toNat = 1 ∨ l.length < u.cfg.startLimit := by
    rw [State.entryAdmitted_iff, starts, cfg, hx]; simp
  refine ⟨fun yes room => ?_, fun no full => ?_, fun e rest he yes full => ?_⟩
  · rw [start, State.takeEntry_of_admitted ends (admitted.mpr yes) (by rw [starts]; exact room), starts, fans]
    exact congrArg Host.Outcome.next (quiet _ rfl)
  · rw [start, State.takeEntry_of_denied ends (by rw [admitted]; omega), starts, fans]
    exact congrArg Host.Outcome.next (quiet _ rfl)
  · rw [State.takeEntry_of_full ends (admitted.mpr yes) (starts.trans he) (by rw [starts]; exact full), fans] at start
    rw [quiet _ (by simp)] at start
    refine ⟨_, start, State.handRemoval_starts _ _, fun f => ?_, by simp, by simp, by simp [← hv], by simp [← hv], by simp [← hv]⟩
    have fan : v.fan f = u.fan f := State.fan_congr fans f
    rw [State.handRemoval_state]
    have unit : State.fan { v with fans := { u.fans with starts := rest ++ [x] } } f = u.fan f := rfl
    have own : State.cfg { v with fans := { u.fans with starts := rest ++ [x] } } = u.cfg := cfg
    rw [unit, own]
    exact if_congr (by tauto) rfl rfl

end Sys2Proof.Machine
end

section
/-! The own echo (R127, R133, R139). -/

namespace Sys2Proof.Machine

/-- R155: a notice outside HOLD and LISTEN. -/
theorem State.notice_tx {s : State} (hold : s.zone.mode ≠ .hold) (listen : s.zone.mode ≠ .listen) :
    s.notice.tx = { s.tx with changeMark := true, statusPending := s.tx.statusPending || s.tx.spacing.isNone } := by
  unfold State.notice
  cases h : s.zone.mode with
  | hold => exact absurd h hold
  | listen => exact absurd h listen
  | normal | contain | fire | purge => rfl

/-- R155: of the Transmit Unit a notice writes the change mark and the pending status alone. -/
theorem State.notice_tx_rest (s : State) : s.notice.tx.isolatedMark = s.tx.isolatedMark ∧
    s.notice.tx.probeOffer = s.tx.probeOffer ∧ s.notice.tx.onLine = s.tx.onLine := by
  unfold State.notice
  (repeat' split) <;> exact ⟨rfl, rfl, rfl⟩

/-- R127, R133: the own frame has completed, with `v` the state of the line, the assembly and the attempt after it. -/
theorem State.completeAttempt_of {s v : State} {a : Attempt}
    (hv : { s with line := { s.line with state := .receiving, failures := 0 }
                   rx := { s.rx with asm := .tail, buffer := frameChars s.cfg.station a.content }
                   tx := { s.tx with onLine := none } } = v) :
    s.completeAttempt a = if a.probe && (v.contentSent a.content).line.isolated then (v.contentSent a.content).endIsolation
                          else v.contentSent a.content := by
  subst hv
  rfl

theorem State.claimEchoes_line (s : State) (f : Fan) (fire : Bool) : (s.claimEchoes f fire).line = s.line := by
  have ends : ∀ t : State, (t.abandonedEnds f).line = t.line := fun t => by
    unfold State.abandonedEnds
    (repeat' split) <;> simp
  unfold State.claimEchoes
  split
  · simp [State.dropSlot]
  · simp [ends, State.dropSlot]

theorem State.contentSent_line (s : State) (c : Content) : (s.contentSent c).line = s.line := by
  cases c with
  | urgent => rfl
  | claim f fire => exact s.claimEchoes_line f fire
  | status => rfl

/-- R139, R152: the echo of an ABANDONED claim is taken into the list, and the claim has then ended. -/
theorem State.claimEchoes_of_abandoned {s : State} {f : Fan} {fire : Bool} (h : (s.fan f).claim = .abandoned) :
    s.claimEchoes f fire = (s.dropSlot.takeEntry (s.entryNow s.cfg.station f fire)).abandonedEnds f := by
  rw [State.claimEchoes, if_neg (by simp [h])]

/-- R99: a claim taken into a list with room, whatever its admission, where it ends no window. -/
theorem State.takeEntry_of_room {s : State} {e : ClaimEntry} (quiet : s.EndsNoWindow e)
    (room : (s.startsWithout e).length < 16) :
    s.takeEntry e = { s with fans := { s.fans with
      starts := if e.fire = true ∨ (s.startsWithout e).length < s.cfg.startLimit then s.startsWithout e ++ [e]
                else s.startsWithout e } } := by
  by_cases yes : s.entryAdmitted e = true
  · rw [State.takeEntry_of_admitted quiet yes room, if_pos ((s.entryAdmitted_iff e).mp yes)]
  · rw [State.takeEntry_of_denied quiet yes, if_neg (mt (s.entryAdmitted_iff e).mpr yes)]

/-- Settles O41: `contentSent` by the kind of the content, and `endIsolation` for a probe. -/
theorem ownEchoCompletesTheAttempt : Obligations.OwnEchoCompletesTheAttempt := by
  intro s u v dt a chars h hu requested asm mark sending online hv
  have start : exec (.frameArrival dt chars) s = .next (u.completeAttempt a).serve := by
    simp only [exec, execFrameArrival, live_released _ _ _ h, hu, asm, if_true, State.frameCompletes, mark, sending, online]
  rw [State.completeAttempt_of (v := v) hv, State.contentSent_line] at start
  have fans : v.fans = u.fans := by rw [← hv]
  have fan : ∀ f, v.fan f = u.fan f := State.fan_congr fans
  have line : v.line.isolated = u.line.isolated := by rw [← hv]
  have cfg : v.cfg = u.cfg := State.cfg_of_store (by rw [← hv])
  have tu : v.tu = u.tu := by rw [← hv]
  have tx : v.tx.isolatedMark = u.tx.isolatedMark ∧ v.tx.slot = u.tx.slot ∧ v.tx.requests = u.tx.requests ∧
      v.tx.onLine = none := by
    rw [← hv]; exact ⟨rfl, rfl, rfl, rfl⟩
  obtain ⟨isolatedMark, vslot, vrequests, noLine⟩ := tx
  have quiet : ∀ t : State, t.share = v.share → t.serve = t := fun t ht =>
    State.serve_of_none t (by rw [ht, ← hv]; exact requested)
  have entry : ∀ f fire, v.entryNow v.cfg.station f fire =
      ⟨u.cfg.station, f, fire, u.tu, tuAfter u.tu (u.cfg.startWindow * 1000)⟩ := fun f fire => by rw [← hv]; rfl
  have taken : ∀ f fire x l, x = { origin := u.cfg.station, fan := f, fire := fire, arrival := u.tu,
                                   expiry := tuAfter u.tu (u.cfg.startWindow * 1000) } →
      u.fans.starts.filter (fun y => !(decide (y.origin = x.origin) && decide (y.fan = f))) = l →
      v.dropSlot.startsWithout x = l ∧
      (v.dropSlot.entryAdmitted x = true ↔ fire = true ∨ l.length < u.cfg.startLimit) ∧
      ((u.fan f).state ≠ .starting → v.dropSlot.EndsNoWindow x) := by
    intro f fire x l hx hl
    have starts : v.dropSlot.startsWithout x = l := by
      rw [State.startsWithout_eq, show v.dropSlot.fans = u.fans from fans, ← hl, hx]
    refine ⟨starts, ?_, fun notStarting own => notStarting ?_⟩
    · rw [State.entryAdmitted_iff, starts, show v.dropSlot.cfg = u.cfg from cfg, hx]
    · rw [← fan, ← own.2, hx]; rfl
  have drop : v.tx.requests = ⟨false, false⟩ → v.dropSlot = { v with tx := { v.tx with slot := none, claimAttempts := 0 } } :=
    fun none => by rw [State.dropSlot, Transmit.freeSlot_of_none none]; rfl
  have sent : u.line.isolated = false → exec (.frameArrival dt chars) s = .next (v.contentSent a.content).serve := fun alone => by
    rw [start, if_neg (by simp [line, alone])]
  refine ⟨fun x hx alone => ?_, fun cls demand flags period hx alone => ?_,
    fun f fire x l hc alone sends waits slot requests hx hl => ⟨fun room yes => ?_, fun no full => ?_⟩,
    fun f fire other again x l hc alone abandoned slot notStarting requests waits hx hl room => ?_, fun probe isolated notClaim => ?_⟩
  · rw [sent alone, hx]
    exact congrArg Host.Outcome.next (quiet _ rfl)
  · rw [sent alone, hx, State.contentSent, State.statusSent, isolatedMark]
    exact congrArg Host.Outcome.next (quiet _ rfl)
  · obtain ⟨starts, admitted, -⟩ := taken f fire x l hx hl
    have fits : (v.dropSlot.startsWithout x).length < 16 := by rw [starts]; exact room
    rw [sent alone, hc, State.contentSent, State.claimEchoes, if_pos (by rw [fan, sends]), entry, ← hx,
      State.decideClaim_of_admitted (s := v.dropSlot) (by rw [hx]) ((congrArg FanUnit.state (fan f)).trans waits)
        (admitted.mpr yes) fits, starts, ← fans, ← fan, drop (by rw [vrequests, requests])]
    exact congrArg Host.Outcome.next (quiet _ rfl)
  · obtain ⟨starts, admitted, ends⟩ := taken f fire x l hx hl
    rw [sent alone, hc, State.contentSent, State.claimEchoes, if_pos (by rw [fan, sends]), entry, ← hx,
      State.decideClaim_of_denied (s := v.dropSlot) (ends (by simp [waits])) (by rw [admitted]; simpa [no] using full),
      starts, ← fans, ← fan, ← cfg, ← tu, drop (by rw [vrequests, requests])]
    exact congrArg Host.Outcome.next (quiet _ rfl)
  · obtain ⟨starts, -, ends⟩ := taken f fire x l hx hl
    have fits : (v.dropSlot.startsWithout x).length < 16 := by rw [starts]; exact room
    have fireNow : x.fire = fire := by rw [hx]
    have limit : v.dropSlot.cfg = u.cfg := cfg
    obtain ⟨w, hw⟩ : ∃ w : State, w = { v with fans := { u.fans with
        starts := if fire = true ∨ l.length < u.cfg.startLimit then l ++ [x] else l } } := ⟨_, rfl⟩
    have taken' : v.dropSlot.takeEntry x = w.dropSlot := by
      rw [State.takeEntry_of_room (ends notStarting) fits, starts, fireNow, limit, hw, ← fans]
      rfl
    have unit : w.fan f = u.fan f := by rw [hw]; rfl
    rw [sent alone, hc, State.contentSent, State.claimEchoes_of_abandoned (by rw [fan, abandoned]), entry, ← hx, taken',
      State.abandonedEnds_eq (by rw [unit, abandoned]) (by rw [hw]; exact line.trans alone)
        (by rw [hw]; exact vrequests.trans requests) (by rw [unit, waits]), unit, hw]
    exact congrArg Host.Outcome.next (quiet _ rfl)
  · obtain ⟨c, hc⟩ : ∃ c, c = v.contentSent a.content := ⟨_, rfl⟩
    have kept : c.line = v.line ∧ c.rx = v.rx ∧ c.fans = v.fans ∧ c.zone = v.zone ∧ c.view = v.view ∧ c.monitor = v.monitor ∧
        c.dampers = v.dampers ∧ c.tx.onLine = v.tx.onLine := by
      rw [hc]
      cases ha : a.content with
      | urgent x => exact ⟨rfl, rfl, rfl, rfl, rfl, rfl, rfl, rfl⟩
      | claim f fire => exact absurd (by rw [ha]; rfl) notClaim
      | status => exact ⟨rfl, rfl, rfl, rfl, rfl, rfl, rfl, rfl⟩
    obtain ⟨cline, crx, cfans, czone, cview, cmonitor, cdampers, conLine⟩ := kept
    rw [if_pos (by rw [probe, line, isolated]; rfl), ← hc, State.endIsolation] at start
    obtain ⟨w, hw⟩ : ∃ w, w = State.requestPass { c with line := { c.line with isolated := false }
                                                         tx := { c.tx with isolatedMark := true, probeOffer := false } } := ⟨_, rfl⟩
    rw [← hw] at start
    obtain ⟨mark, offer, online⟩ := w.notice_tx_rest
    have asked : w.notice.share.requested = true := by rw [hw]; simp [State.requestPass]
    have moved : w.zone = u.zone := by rw [hw]; exact czone.trans (by rw [← hv])
    have tx : w.notice.serve.tx = w.notice.tx := by simp
    refine ⟨_, start, ?_, ?_, by rw [tx, mark, hw]; rfl, by rw [tx, offer, hw]; rfl, ?_, State.serve_of_requested asked,
      fun hold listen => ?_, ?_, ?_, ?_, ?_, ?_⟩
    · simp [hw, cline, ← hv, State.requestPass]
    · simp [hw, crx, State.requestPass]
    · rw [tx, online, hw]; exact conLine.trans noLine
    · rw [tx, State.notice_tx (by rw [moved]; exact hold) (by rw [moved]; exact listen)]
    · simp [hw, cfans, fans, State.requestPass]
    · simp [moved]
    · simp [hw, cview, ← hv, State.requestPass]
    · simp [hw, cmonitor, ← hv, State.requestPass]
    · simp [hw, cdampers, ← hv, State.requestPass]

end Sys2Proof.Machine
end

section
/-! The Service Port: the judgement of requests, its recoveries, and the points (chapters 11 and 12). -/

namespace Sys2Proof.Machine

/-! ### The judgement of a request -/

/-- R167: a response sums to 0 modulo 256. -/
theorem sumChars_responseChars (code : Byte) (st : Status) (data : List Byte) : sumChars (responseChars code st data) = 0 := by
  rw [responseChars, sumChars, List.foldl_append]
  show sumChars (responseHead code st data) + checksumFor (responseHead code st data) = 0
  rw [checksumFor]
  ring

/-- R167: what a response leaves. -/
theorem State.charNow_respond (s : State) (code : Byte) (st : Status) (data : List Byte) :
    s.charNow.respond code st data = { s with port := s.answering code st data } := rfl

theorem State.answering_congr {s t : State} (tu : s.tu = t.tu) (code : Byte) (st : Status)
    (data : List Byte) : s.answering code st data = t.answering code st data := by
  rw [State.answering, State.answering, tu]

/-- R166: the port is free for a request when it is READY and not busy. -/
theorem State.portFree_iff (s : State) : s.portFree = true ↔ s.port.busy = false ∧ s.port.state = .ready := by
  simp [State.portFree]

/-- R166: a length character above 200. -/
theorem State.request_long {s : State} {code : Byte} {n : Nat} {req : Request} {act : State → State}
    (free : s.portFree = true) (long : 200 < req.data.length) : s.request code n req act = s.charNow.startSkipping code := by
  rw [State.request, if_pos free, if_pos (show Config.requestMax < _ from long)]

/-- R167, step 1. -/
theorem State.request_badCheck {s : State} {code : Byte} {n : Nat} {req : Request} {act : State → State}
    (free : s.portFree = true) (short : req.data.length ≤ 200) (sum : requestSumOk code req = false) :
    s.request code n req act = { s with port := s.answering code .badCheck [] } := by
  rw [State.request, if_pos free, if_neg (show ¬ Config.requestMax < _ from Nat.not_lt.mpr short), if_pos (by simp [sum]),
    State.charNow_respond]

/-- R167, step 3. -/
theorem State.request_badLength {s : State} {code : Byte} {n : Nat} {req : Request} {act : State → State}
    (hears : s.Hears code req) (short : req.data.length ≤ 200) (len : req.data.length ≠ n) :
    s.request code n req act = { s with port := s.answering code .badLength [] } := by
  obtain ⟨busy, ready, sum⟩ := hears
  rw [State.request, if_pos ((State.portFree_iff s).mpr ⟨busy, ready⟩),
    if_neg (show ¬ Config.requestMax < _ from Nat.not_lt.mpr short), if_neg (by simp [sum]), if_pos len, State.charNow_respond]

/-- R167: a request that passes the port's own steps has its command's effect. -/
theorem State.request_heard {s : State} {code : Byte} {n : Nat} {req : Request} {act : State → State}
    (hears : s.Hears code req) (short : req.data.length ≤ 200) (len : req.data.length = n) :
    s.request code n req act = act s.charNow :=
  State.request_accepted s code n req act ((State.portFree_iff s).mpr ⟨hears.1, hears.2.1⟩) short hears.2.2 len

theorem State.Hears.congr {s t : State} {code : Byte} {req : Request} (h : s.Hears code req) (port : t.port = s.port) :
    t.Hears code req := by rw [State.Hears, port]; exact h

/-! R168: each command as a request to the port, with its code, its data length and its effect. -/

section commands

variable {s : State} {dt : Tu} {req : Request} (h : s.released = true)
include h

theorem exec_identify : exec (.identify dt req) s = .next ((s.elapse dt).request 0x01 0 req fun t => t.respond 0x01 .ok identifyData) := by
  rw [exec, execIdentify, live_released _ _ _ h]

theorem exec_readState : exec (.readState dt req) s = .next ((s.elapse dt).request 0x10 0 req fun t => t.respond 0x10 .ok t.stateData) := by
  rw [exec, execReadState, live_released _ _ _ h]

theorem exec_readPeer : exec (.readPeer dt req) s = .next ((s.elapse dt).request 0x11 1 req fun t =>
      if Config.viewCapacity ≤ (reqArg req 0).toNat then t.respond 0x11 .badArg []
      else t.respond 0x11 .ok (t.peerData (reqArg req 0).toNat)) := by
  rw [exec, execReadPeer, live_released _ _ _ h]

theorem exec_readStarts : exec (.readStarts dt req) s = .next ((s.elapse dt).request 0x12 0 req fun t => t.respond 0x12 .ok t.startsData) := by
  rw [exec, execReadStarts, live_released _ _ _ h]

theorem exec_modifyPoints : exec (.modifyPoints dt req) s = .next ((s.elapse dt).request 0x21 3 req fun t =>
      if t.modifyOutcome req = .ok then ((t.setForces req).respond 0x21 .ok []).finish
      else t.respond 0x21 (t.modifyOutcome req) []) := by
  rw [exec, execModifyPoints, live_released _ _ _ h]

theorem exec_releasePoints : exec (.releasePoints dt req) s = .next ((s.elapse dt).request 0x22 0 req fun t => (t.releaseForces.respond 0x22 .ok []).finish) := by
  rw [exec, execReleasePoints, live_released _ _ _ h]

theorem exec_fireReset : exec (.fireReset dt req) s = .next ((s.elapse dt).request 0x30 0 req fun t =>
      if t.resetOutcome = .ok then ((t.acceptReset .service).respond 0x30 .ok []).finish
      else t.respond 0x30 t.resetOutcome []) := by
  rw [exec, execFireReset, live_released _ _ _ h]

theorem exec_clearFaults : exec (.clearFaults dt req) s = .next ((s.elapse dt).request 0x31 0 req fun t => (t.clearAll.respond 0x31 .ok []).finish) := by
  rw [exec, execClearFaults, live_released _ _ _ h]

theorem exec_loadRecord : exec (.loadRecord dt req) s = .next ((s.elapse dt).request 0x40 90 req fun t =>
      if t.loadOutcome req.data = .ok then t.startWrite req.data
      else t.respond 0x40 (t.loadOutcome req.data) []) := by
  rw [exec, execLoadRecord, live_released _ _ _ h]
  rfl

theorem exec_readRecord : exec (.readRecord dt req) s = .next ((s.elapse dt).request 0x41 0 req fun t => t.respond 0x41 .ok t.store.bytes) := by
  rw [exec, execReadRecord, live_released _ _ _ h]

theorem exec_readPoints (x : LiveLines) : exec (.readPoints dt req x) s =
    .next (((s.elapse dt).seeLines x).request 0x20 3 req fun t =>
      if readInRange req then t.respond 0x20 .ok (t.pointData (readBase req).toNat (reqArg req 2).toNat)
      else t.respond 0x20 .badArg []) := by
  rw [exec, execReadPoints, live_released _ _ _ h]

end commands

/-- R167: every service command is a request to the port, with a data length and an effect. -/
theorem exec_serviceCommand {s u v : State} {dt : Tu} {code : Byte} {n : Nat} {req : Request} {c : Instr}
    (h : s.released = true) (hu : s.elapse dt = u)
    (hc : (code, n, c) ∈ [(0x01, 0, Instr.identify dt req), (0x10, 0, .readState dt req), (0x11, 1, .readPeer dt req),
        (0x12, 0, .readStarts dt req), (0x21, 3, .modifyPoints dt req), (0x22, 0, .releasePoints dt req),
        (0x30, 0, .fireReset dt req), (0x31, 0, .clearFaults dt req), (0x40, 90, .loadRecord dt req),
        (0x41, 0, .readRecord dt req)] ∧ v = u ∨
      (∃ x : LiveLines, c = .readPoints dt req x ∧ code = 0x20 ∧ n = 3 ∧
        v = { u with pins := { u.pins with strap := x.strap, tach := ⟨x.tachA, x.tachB⟩ } }) ∨
      c = .unknownCommand dt code req ∧ code ∉ commandCodes ∧ n = req.data.length ∧ v = u) :
    ∃ act : State → State, exec c s = .next (v.request code n req act) ∧
      (c = .unknownCommand dt code req → n = req.data.length ∧ ∀ t, act t = t.respond code .unknown []) := by
  rcases hc with ⟨hc, rfl⟩ | ⟨x, rfl, rfl, rfl, rfl⟩ | ⟨rfl, outside, rfl, rfl⟩
  · simp only [List.mem_cons, Prod.mk.injEq, List.not_mem_nil, or_false] at hc
    subst hu
    rcases hc with ⟨rfl, rfl, rfl⟩ | ⟨rfl, rfl, rfl⟩ | ⟨rfl, rfl, rfl⟩ | ⟨rfl, rfl, rfl⟩ | ⟨rfl, rfl, rfl⟩ |
      ⟨rfl, rfl, rfl⟩ | ⟨rfl, rfl, rfl⟩ | ⟨rfl, rfl, rfl⟩ | ⟨rfl, rfl, rfl⟩ | ⟨rfl, rfl, rfl⟩
    · exact ⟨_, exec_identify h, fun e => by cases e⟩
    · exact ⟨_, exec_readState h, fun e => by cases e⟩
    · exact ⟨_, exec_readPeer h, fun e => by cases e⟩
    · exact ⟨_, exec_readStarts h, fun e => by cases e⟩
    · exact ⟨_, exec_modifyPoints h, fun e => by cases e⟩
    · exact ⟨_, exec_releasePoints h, fun e => by cases e⟩
    · exact ⟨_, exec_fireReset h, fun e => by cases e⟩
    · exact ⟨_, exec_clearFaults h, fun e => by cases e⟩
    · exact ⟨_, exec_loadRecord h, fun e => by cases e⟩
    · exact ⟨_, exec_readRecord h, fun e => by cases e⟩
  · subst hu
    exact ⟨_, exec_readPoints h x, fun e => by cases e⟩
  · refine ⟨fun t => t.respond code .unknown [], ?_, fun _ => ⟨rfl, fun _ => rfl⟩⟩
    simp only [exec, execUnknownCommand, live_released _ _ _ h, hu, if_neg outside]

/-- Settles O46: every service command is a `request`, and the steps of `request` in their order. -/
theorem portJudgesEveryRequest : Obligations.PortJudgesEveryRequest := by
  refine ⟨sumChars_responseChars, fun s u v dt code n req c h hu hc => ?_⟩
  have same : v.port = u.port ∧ v.tu = u.tu := by
    rcases hc with ⟨-, rfl⟩ | ⟨x, -, -, -, rfl⟩ | ⟨-, -, -, rfl⟩ <;> exact ⟨rfl, rfl⟩
  obtain ⟨port, tu⟩ := same
  obtain ⟨act, start, unknown⟩ := exec_serviceCommand h hu hc
  have free : u.port.busy = false → u.port.state = .ready → v.portFree = true := fun busy ready =>
    (State.portFree_iff v).mpr (by rw [port]; exact ⟨busy, ready⟩)
  refine ⟨fun busy => ?_, fun busy skipping => ?_, fun busy ready long => ?_, fun busy ready short sum => ?_,
    fun hears short len => ?_, fun hears short hk => ?_⟩
  · rw [start, State.request_busy _ _ _ _ _ (by rw [port, busy])]
  · rw [start, State.request_skipping _ _ _ _ _ (by rw [port, busy]) (by simp [port, skipping]), State.charNow, port, tu]
  · rw [start, State.request_long (free busy ready) long, State.startSkipping, State.charNow, port, tu]
  · rw [start, State.request_badCheck (free busy ready) short sum, State.answering_congr tu]
  · rw [start, State.request_badLength (hears.congr port) short len, State.answering_congr tu]
  · obtain ⟨len, answers⟩ := unknown hk
    rw [start, State.request_heard (hears.congr port) short len.symm, answers, State.charNow_respond,
      State.answering_congr tu]

/-! ### Partial requests -/

/-- R166: a busy port discards characters. -/
theorem Port.feed_busy {p : Port} (h : p.busy = true) (cs : List Byte) : cs.foldl Port.feed p = p := by
  induction cs with
  | nil => rfl
  | cons c cs ih => rw [List.foldl_cons, Port.feed, if_pos h, ih]

/-- R166: in SKIPPING characters are ignored. -/
theorem Port.feed_skipping {p : Port} (h : p.state = .skipping) (cs : List Byte) : cs.foldl Port.feed p = p := by
  induction cs with
  | nil => rfl
  | cons c cs ih =>
    have same : p.feed c = p := by
      rw [Port.feed, h]
      exact ite_self _
    rw [List.foldl_cons, same, ih]

/-- R166: the characters after the length of a request are taken as they come. -/
theorem Port.feed_assembling {p : Port} (busy : p.busy = false) (state : p.state = .assembling) (two : 2 ≤ p.chars.length)
    (cs : List Byte) : cs.foldl Port.feed p = { p with chars := p.chars ++ cs } := by
  induction cs generalizing p with
  | nil => simp
  | cons c cs ih =>
    have step : p.feed c = { p with chars := p.chars ++ [c] } := by
      rw [Port.feed, if_neg (by simp [busy]), state]
      exact if_neg (by omega)
    rw [List.foldl_cons, step, ih (p := { p with chars := p.chars ++ [c] }) busy state (by simp; omega)]
    simp

/-- R166: the characters of a partial request whose length is not above 200. -/
theorem Port.feed_partial {p : Port} {code : Byte} {rest : List Byte} (busy : p.busy = false) (ready : p.state = .ready)
    (short : ∀ len more, rest = len :: more → len.toNat ≤ 200) :
    (code :: rest).foldl Port.feed p = { p with state := .assembling, chars := code :: rest } := by
  have begins : p.feed code = { p with state := .assembling, chars := [code] } := by
    rw [Port.feed, if_neg (by simp [busy]), ready]
  rw [List.foldl_cons, begins]
  cases rest with
  | nil => rfl
  | cons len more =>
    have second : Port.feed { p with state := .assembling, chars := [code] } len =
        { p with state := .assembling, chars := [code, len] } := by
      have small : ¬ Config.requestMax < len.toNat := Nat.not_lt.mpr (short len more rfl)
      simp [Port.feed, busy, small]
    rw [List.foldl_cons, second]
    exact Port.feed_assembling (p := { p with state := .assembling, chars := [code, len] }) busy rfl (by simp) more

/-- R166: the characters of a request whose length is above 200. -/
theorem Port.feed_long {p : Port} {code len : Byte} {more : List Byte} (busy : p.busy = false) (ready : p.state = .ready)
    (long : 200 < len.toNat) :
    (code :: len :: more).foldl Port.feed p = { p with state := .skipping, chars := [code] } := by
  have begins : p.feed code = { p with state := .assembling, chars := [code] } := by
    rw [Port.feed, if_neg (by simp [busy]), ready]
  have second : Port.feed { p with state := .assembling, chars := [code] } len = { p with state := .skipping, chars := [code] } := by
    have big : Config.requestMax < len.toNat := long
    simp [Port.feed, busy, big]
  rw [List.foldl_cons, begins, List.foldl_cons, second]
  exact Port.feed_skipping rfl more

/-- Settles O47: what the port holds after the characters, and what ends there. -/
theorem portRecoversFromPartialRequests : Obligations.PortRecoversFromPartialRequests := by
  intro s u dt code rest h hu
  have gap : ∀ cs, u.gapDue cs = true →
      exec (.serviceTimeout dt cs) s = .next ((u.charBeforeGap cs).feedPort cs).endOfGap := fun cs due => by
    rw [exec, execServiceTimeout, live_released _ _ _ h, hu, if_pos due]
  have frame : ∀ cs, exec (.serviceFramingError dt cs) s = .next (u.feedPort cs).framingError := fun cs => by
    rw [exec, execServiceFramingError, live_released _ _ _ h, hu]
  have before : ∀ cs, cs ≠ [] → u.port.busy = false →
      u.charBeforeGap cs = { u with port := { u.port with lastChar := u.tu - 500 } } := fun cs some busy => by
    rw [State.charBeforeGap, if_neg (by simp [some, busy])]; rfl
  have nonempty : ∀ cs, cs ≠ [] → u.gapDue cs = true := fun cs some => by simp [State.gapDue, some]
  refine ⟨fun busy ready short => ?_, fun len more busy ready hr long => ?_, fun busy skipping held => ⟨fun due => ?_, fun some => ?_, ?_⟩,
    fun busy => ?_, fun sending => ?_⟩
  · have shortLen : ∀ len more, rest = len :: more → len.toNat ≤ 200 := by
      rintro len more rfl
      rcases short with he | ⟨_, _, he, hs, -⟩
      · cases he
      · cases he; exact hs
    constructor
    · rw [gap _ (nonempty _ (by simp)), before _ (by simp) busy, State.feedPort]
      simp only
      rw [Port.feed_partial (p := { u.port with lastChar := u.tu - 500 }) busy ready shortLen, State.endOfGap, if_neg (by simp [busy])]
      rfl
    · rw [frame, State.feedPort, Port.feed_partial busy ready shortLen, State.framingError, if_neg (by simp [busy])]
      rfl
  · subst hr
    constructor
    · rw [gap _ (nonempty _ (by simp)), before _ (by simp) busy, State.feedPort]
      simp only
      rw [Port.feed_long (p := { u.port with lastChar := u.tu - 500 }) busy ready long, State.endOfGap, if_neg (by simp [busy])]
      rfl
    · rw [frame, State.feedPort, Port.feed_long busy ready long, State.framingError, if_neg (by simp [busy])]
      rfl
  · have silence : u.gapDue [] = true := due
    rw [gap _ silence, State.charBeforeGap, if_pos (by simp), State.feedPort, List.foldl_nil, State.endOfGap,
      if_neg (by simp [busy]), skipping, held]
    rfl
  · rw [gap _ (nonempty _ some), before _ some busy, State.feedPort]
    simp only
    rw [Port.feed_skipping (p := { u.port with lastChar := u.tu - 500 }) skipping, State.endOfGap, if_neg (by simp [busy])]
    simp only [skipping, held]
    rfl
  · rw [frame, State.feedPort, Port.feed_skipping skipping, State.framingError, if_neg (by simp [busy]), skipping]
    rw [State.charNow]
  · constructor
    · rw [gap _ (nonempty _ (by simp)), State.charBeforeGap, if_pos (by simp [busy]), State.feedPort, Port.feed_busy busy,
        State.endOfGap, if_pos busy]
    · rw [frame, State.feedPort, Port.feed_busy busy, State.framingError, if_pos busy]
  · rw [exec, execResponseSent, live_released _ _ _ h, hu, if_neg sending]

/-! ### The points -/

theorem damperOfNum_num (d : DamperId) : damperOfNum d.num = some d := by
  cases d with
  | ed f => cases f <;> rfl
  | td k => cases k <;> rfl

theorem DamperId.num_lt (d : DamperId) : d.num < 6 := by
  cases d with
  | ed f => cases f <;> decide
  | td k => cases k <;> decide

/-- Settles O50: `pointValue` at each address of R160's table. -/
theorem pointsShowTheLines : Obligations.PointsShowTheLines := by
  intro s
  refine ⟨fun p => ?_, rfl, rfl, rfl, rfl, rfl, fun d => ⟨?_, ?_, ?_⟩, fun c => ?_, rfl, rfl, rfl, decide_eq_true_iff, ?_, rfl,
    fun a ha => ?_⟩
  · cases p <;> rfl
  · cases d with
    | ed f => cases f <;> rfl
    | td k => cases k <;> rfl
  · cases d with
    | ed f => cases f <;> rfl
    | td k => cases k <;> rfl
  · cases d with
    | ed f => cases f <;> rfl
    | td k => cases k <;> rfl
  · have at_ : s.pointValue (32 + c.num) = s.channelFaulted c := by cases c <;> rfl
    rw [at_, State.channelFaulted, Bool.and_eq_true, decide_eq_true_iff]
  · simp [State.pointValue, Force.over, State.fireRelayDrive, Mode.dropsForces, Forces.clear, Force.clear]
  · unfold State.pointValue
    (repeat' rw [if_neg (by omega)])

/-- R161: the range of a request for points. -/
theorem readInRange_iff (base disp count : Byte) (req : Request) (h : req.data = [base, disp, count]) :
    readInRange req = true ↔ base.toNat ≤ 127 ∧ 1 ≤ count.toNat ∧ count.toNat ≤ 16 ∧
      0 ≤ (base.toNat : Int) + disp.toInt ∧ (base.toNat : Int) + disp.toInt + count.toNat - 1 ≤ 127 := by
  simp only [readInRange, readBase, reqArg, h, List.getD_cons_zero, List.getD_cons_succ, inRange, Bool.and_eq_true,
    decide_eq_true_eq, Config.pointCount]
  omega

/-- Settles O49: the range of `readInRange` and the data of `pointData`. -/
theorem readPointsAnswersItsAddresses : Obligations.ReadPointsAnswersItsAddresses := by
  rintro s u v dt req x base disp count a h hu hv hears hd rfl
  have port : v.port = u.port := by rw [← hv]
  have tu : v.tu = u.tu := by rw [← hv]
  have start : exec (.readPoints dt req x) s = .next (if readInRange req
      then { v with port := u.answering 0x20 .ok (v.pointData (readBase req).toNat (reqArg req 2).toNat) }
      else { v with port := u.answering 0x20 .badArg [] }) := by
    rw [exec_readPoints h, hu, show u.seeLines x = v from hv,
      State.request_heard (hears.congr port) (by simp [hd]) (by simp [hd]), ← State.answering_congr tu, ← State.answering_congr tu]
    rfl
  have range := readInRange_iff base disp count req hd
  have base_ : readBase req = (base.toNat : Int) + disp.toInt := by simp [readBase, reqArg, hd]
  have count_ : (reqArg req 2).toNat = count.toNat := by simp [reqArg, hd]
  refine ⟨fun outside => ?_, fun hb h1 h16 low high => ?_⟩
  · rw [start, if_neg (by rw [range]; omega)]
  · refine ⟨_, by rw [start, if_pos (range.mpr ⟨hb, h1, h16, low, high⟩)], by simp [State.pointData, count_], fun i hi => ?_⟩
    rw [State.pointData, base_, count_, List.getElem?_map, List.getElem?_range hi, Option.map_some]
    cases v.pointValue (((base.toNat : Int) + disp.toInt).toNat + i) <;> rfl

end Sys2Proof.Machine
end

section
/-! The reads of the Service Port (R168 to R170). -/

namespace Sys2Proof.Machine

/-! ### Fields of a response -/

theorem holdsWord_of {data : List Byte} {i n : Nat} (hn : n < 65536) (hi : data[i]? = some (char1 (n / 256)))
    (lo : data[i + 1]? = some (char1 n)) : holdsWord data i n := by
  refine ⟨_, _, hi, lo, ?_⟩
  rw [char1_toNat (by omega)]
  simp only [char1, BitVec.toNat_ofNat]
  omega

theorem holdsLong_of {data : List Byte} {i : Nat} {v : Tu} (a : data[i]? = some (char1 (v.toNat / 16777216)))
    (b : data[i + 1]? = some (char1 (v.toNat / 65536))) (c : data[i + 2]? = some (char1 (v.toNat / 256)))
    (d : data[i + 3]? = some (char1 v.toNat)) : holdsLong data i v := by
  refine ⟨_, _, _, _, a, b, c, d, ?_⟩
  have hv := v.isLt
  simp only [char1, BitVec.toNat_ofNat]
  omega

/-- R169: flags of weights 1 to 64 in one character. -/
theorem char1_seven_flags : ∀ a b c d e f g : Bool,
    let x := char1 (weight a 1 + weight b 2 + weight c 4 + weight d 8 + weight e 16 + weight f 32 + weight g 64)
    x.getLsbD 0 = a ∧ x.getLsbD 1 = b ∧ x.getLsbD 2 = c ∧ x.getLsbD 3 = d ∧ x.getLsbD 4 = e ∧ x.getLsbD 5 = f ∧
    x.getLsbD 6 = g ∧ x.getLsbD 7 = false := by
  decide

/-- R169: the fields of a damper's character. -/
theorem char1_damper_fields : ∀ n < 5, ∀ r < 4, ∀ b : Bool,
    let x := char1 (n + 8 * r + weight b 128)
    x.toNat % 8 = n ∧ x.toNat / 8 % 4 = r ∧ x.getLsbD 5 = false ∧ x.getLsbD 6 = false ∧ x.getLsbD 7 = b := by
  decide

theorem DamperState.num_lt (x : DamperState) : x.num < 5 := by cases x <;> decide

theorem reasonNum_lt (x : Option StuckReason) : reasonNum x < 4 := by
  cases x with
  | none => decide
  | some r => cases r <;> decide

theorem causeNum_eq (c : Option FireCause) : causeNum c = (c.map FireCause.code).getD 255 := by cases c <;> rfl

theorem hitNum_eq (h : Option FilterIx) : hitNum h = (h.map Fin.val).getD 255 := by cases h <;> rfl

/-- The place `k` of the `i`-th of a run of records of `n` characters each. -/
theorem getElem?_flatMap_record {α β : Type} {f : α → List β} {n : Nat} (hf : ∀ x, (f x).length = n) {k : Nat} (hk : k < n) :
    ∀ {l : List α} {i : Nat} {e : α}, l[i]? = some e → (l.flatMap f)[n * i + k]? = (f e)[k]?
  | [], i, e, h => by simp at h
  | x :: l, 0, e, h => by
    obtain rfl : x = e := by simpa using h
    rw [List.flatMap_cons, List.getElem?_append_left (by rw [hf]; omega), Nat.mul_zero, Nat.zero_add]
  | x :: l, i + 1, e, h => by
    rw [List.flatMap_cons, List.getElem?_append_right (by rw [hf, Nat.mul_succ]; omega), hf,
      show n * (i + 1) + k - n = n * i + k by rw [Nat.mul_succ]; omega]
    exact getElem?_flatMap_record hf hk (by simpa using h)

/-! ### READ STATE -/

/-- R169: the characters before the stations of the contain list, one by one. -/
def State.stateHead (s : State) : List Byte :=
  [char1 s.zone.mode.num, char1 s.share.cls.num,
   char1 (s.share.demand / 256), char1 s.share.demand,
   char1 (s.share.results.grant / 256), char1 s.share.results.grant,
   char1 s.share.results.flag.num, s.flagByte,
   char1 (s.share.results.t / 256), char1 s.share.results.t,
   char1 (s.fans.setpoint / 256), char1 s.fans.setpoint,
   char1 (s.share.results.rOwn / 256), char1 s.share.results.rOwn,
   char1 (s.share.results.sOwn / 256), char1 s.share.results.sOwn,
   char1 (s.fume.index / 256), char1 s.fume.index, char1 s.fume.cls.num,
   char1 s.monitor.decl.num, char1 (causeNum s.monitor.cause),
   char1 s.causeCode, char1 s.line.failures,
   char1 (s.fan .A).state.num, char1 (fanFaultNum (s.fan .A).cause),
   char1 (s.speedOutput .A / 256), char1 (s.speedOutput .A),
   char1 (s.fan .B).state.num, char1 (fanFaultNum (s.fan .B).cause),
   char1 (s.speedOutput .B / 256), char1 (s.speedOutput .B),
   s.damperByte (.ed .A), s.damperByte (.ed .B), s.damperByte (.td .i0), s.damperByte (.td .i1), s.damperByte (.td .i2),
   s.damperByte (.td .i3),
   char1 (s.rx.errors / 256), char1 s.rx.errors,
   char1 (s.rx.lost / 256), char1 s.rx.lost,
   char1 (s.view.refused / 256), char1 s.view.refused, char1 s.zone.contain.length]

theorem State.stateData_eq (s : State) : s.stateData = s.stateHead ++ s.zone.contain.map fun o => char1 o.val := by
  delta State.stateData
  simp only [List.append_assoc]
  simp only [State.stateHead, char2, State.fanBytes, DamperId.all, List.map_cons, List.map_nil, List.cons_append,
    List.nil_append]

theorem State.stateHead_length (s : State) : s.stateHead.length = 44 := rfl

/-- R169: a place of READ STATE before the stations of the contain list. -/
theorem State.stateData_get (s : State) {i : Nat} {b : Byte} (hi : i < 44) (h : s.stateHead[i]? = some b) :
    s.stateData[i]? = some b := by
  rw [s.stateData_eq, List.getElem?_append_left (by rw [s.stateHead_length]; exact hi), h]

/-- R169: the dampers' characters stand from place 31. -/
theorem State.stateHead_damper (s : State) (d : DamperId) : s.stateHead[31 + d.num]? = some (s.damperByte d) := by
  cases d with
  | ed f => cases f <;> rfl
  | td k => cases k <;> rfl

/-- R168: a request with no data that the port hears. -/
theorem State.request_heard_empty {s : State} {code : Byte} {req : Request} {act : State → State} (hears : s.Hears code req)
    (none : req.data = []) : s.request code 0 req act = act s.charNow :=
  State.request_heard hears (by simp [none]) (by simp [none])

/-- Settles O48: the data of each read, place by place. -/
theorem readsAnswerFromTheState : Obligations.ReadsAnswerFromTheState := by
  refine ⟨by decide, fun s u dt req h hu => ?_⟩
  have peer : ∀ i : Byte, u.Hears 0x11 req → req.data = [i] → i.toNat ≤ 23 →
      exec (.readPeer dt req) s = .next { u with port := u.answering 0x11 .ok (u.peerData i.toNat) } := fun i hears one small => by
    have inside : ¬ Config.viewCapacity ≤ (reqArg req 0).toNat := by simp [reqArg, one, Config.viewCapacity]; omega
    rw [exec_readPeer h, hu, State.request_heard hears (by simp [one]) (by simp [one]), if_neg inside, State.charNow_respond,
      show reqArg req 0 = i by simp [reqArg, one]]
    rfl
  have startsLength : (u.fans.starts.flatMap ClaimEntry.bytes).length = 11 * u.fans.starts.length := by
    simp [List.length_flatMap, ClaimEntry.bytes, char4, Nat.mul_comm]
  refine ⟨fun hears none => ?_, fun hears none few => ⟨u.stateData, ?_, ?_, ?_, ?_, ?_, ?_, ?_⟩,
    fun i hears one => ⟨fun big => ?_, fun small empty => ?_, fun e small entry => ⟨e.bytes, ?_, rfl, ?_, fun hd => ?_, ?_, ?_⟩⟩,
    fun hears none few => ⟨u.startsData, ?_, ?_, rfl, fun i e he => ?_⟩, fun hears none => ?_⟩
  · rw [exec_identify h, hu, State.request_heard_empty hears none, State.charNow_respond]
    rfl
  · rw [exec_readState h, hu, State.request_heard_empty hears none]
    rfl
  · rw [u.stateData_eq, List.length_append, u.stateHead_length, List.length_map]
  · simp only [List.forall_mem_cons, List.not_mem_nil, false_imp_iff, implies_true, and_true, ← causeNum_eq]
    refine ⟨?_, ?_, ?_, ?_, ?_, ?_, ?_, ?_, ?_, ?_, ?_, ?_, ?_⟩ <;> exact u.stateData_get (by simp) rfl
  · simp only [List.forall_mem_cons, List.not_mem_nil, false_imp_iff, implies_true, and_true]
    refine ⟨?_, ?_, ?_, ?_, ?_, ?_, ?_, ?_, ?_, ?_, ?_, ?_⟩ <;>
      exact fun hn => holdsWord_of hn (u.stateData_get (by simp) rfl) (u.stateData_get (by simp) rfl)
  · obtain ⟨b0, b1, b2, b3, b4, b5, b6, b7⟩ := char1_seven_flags u.share.results.isoRule u.degraded u.line.isolated u.line.stuck
      (decide (u.line.rate = .r115200)) u.recordValid u.rx.duplicate
    exact ⟨u.flagByte, u.stateData_get (by decide) rfl, b0, b1, b2, b3, b4, b5, b6, b7⟩
  · intro d
    obtain ⟨state, reason, b5, b6, b7⟩ := char1_damper_fields _ (u.damper d).state.num_lt _ (reasonNum_lt (u.damper d).reason)
      (u.damper d).fitted
    exact ⟨u.damperByte d, u.stateData_get (by have := DamperId.num_lt d; omega) (u.stateHead_damper d), state, reason, b5, b6, b7⟩
  · intro i
    rw [u.stateData_eq, List.getElem?_append_right (by rw [u.stateHead_length]; omega), u.stateHead_length, List.getElem?_map]
    simp [char1]
  · have outside : Config.viewCapacity ≤ (reqArg req 0).toNat := by simp [reqArg, one, Config.viewCapacity]; omega
    rw [exec_readPeer h, hu, State.request_heard hears (by simp [one]) (by simp [one]), if_pos outside, State.charNow_respond]
  · rw [peer i hears one small]
    simp [State.peerData, empty]
  · rw [peer i hears one small]
    simp [State.peerData, entry]
  · simp only [List.forall_mem_cons]
    simp [PeerEntry.bytes, char2, char4, char1, hitNum_eq]
  · exact holdsWord_of hd rfl rfl
  · exact holdsLong_of rfl rfl rfl rfl
  · obtain ⟨b0, b1, b2, b3, b4, b5, b6, b7⟩ := char1_seven_flags e.flags.preAlarm e.flags.fanFault e.flags.short e.flags.isolated
      e.assumed e.provisional false
    exact ⟨_, rfl, b0, b1, b2, b3, b4, b5, b6, b7⟩
  · rw [exec_readStarts h, hu, State.request_heard_empty hears none]
    rfl
  · rw [State.startsData, List.length_cons, startsLength]
    omega
  · have place : ∀ k < 11, ∀ n, n = 1 + 11 * i + k → u.startsData[n]? = e.bytes[k]? := by
      rintro k hk n rfl
      rw [State.startsData, show 1 + 11 * i + k = (11 * i + k) + 1 by omega, List.getElem?_cons_succ,
        getElem?_flatMap_record (n := 11) (fun _ => rfl) hk he]
    have field : ∀ k < 11, ∀ n b, n = 1 + 11 * i + k → e.bytes[k]? = some b → u.startsData[n]? = some b :=
      fun k hk n b hn hb => (place k hk n hn).trans hb
    refine ⟨field 0 (by decide) _ _ rfl rfl, field 1 (by decide) _ _ (by omega) ?_, field 2 (by decide) _ _ (by omega) ?_,
      holdsLong_of (field 3 (by decide) _ _ (by omega) rfl) (field 4 (by decide) _ _ (by omega) rfl)
        (field 5 (by decide) _ _ (by omega) rfl) (field 6 (by decide) _ _ (by omega) rfl),
      holdsLong_of (field 7 (by decide) _ _ (by omega) rfl) (field 8 (by decide) _ _ (by omega) rfl)
        (field 9 (by decide) _ _ (by omega) rfl) (field 10 (by decide) _ _ (by omega) rfl)⟩
    · cases hf : e.fan <;> simp [ClaimEntry.bytes, hf, fanCode, char1]
    · cases hf : e.fire <;> simp [ClaimEntry.bytes, hf, weight, char1]
  · rw [exec_readRecord h, hu, State.request_heard_empty hears none]
    rfl

end Sys2Proof.Machine
end

section
/-! The forces (R162 to R164). -/

namespace Sys2Proof.Machine

/-! ### The points of a request -/

theorem damperOfNum_some {n : Nat} {d : DamperId} (h : damperOfNum n = some d) : n = d.num := by
  unfold damperOfNum at h
  split at h <;> cases h <;> rfl

theorem damperNum_inj {d e : DamperId} (h : d.num = e.num) : d = e :=
  Option.some.inj (by rw [← damperOfNum_num d, h, damperOfNum_num])

/-- R162: one force of a damper. -/
theorem Forces.force_damper (x : Forces) {p : Nat × Bool} (h : 72 ≤ p.1) (d : DamperId) :
    (x.force p).dampers.get d = if p.1 = 72 + d.num then ⟨true, p.2⟩ else x.dampers.get d := by
  have hd := DamperId.num_lt d
  unfold Forces.force
  by_cases hf : p.1 = 80
  · rw [if_pos hf, if_neg (by omega)]
  by_cases hg : p.1 = 81
  · rw [if_neg hf, if_pos hg, if_neg (by omega)]
  rw [if_neg hf, if_neg hg]
  cases he : damperOfNum (p.1 - 72) with
  | none =>
    rw [if_neg]
    intro hp
    rw [hp, Nat.add_sub_cancel_left, damperOfNum_num] at he
    cases he
  | some e =>
    have num : p.1 = 72 + e.num := by
      have := damperOfNum_some he
      omega
    rw [PerDamper.get_set]
    exact if_congr ⟨fun hde => by rw [hde, num], fun hp => damperNum_inj (by omega)⟩ rfl rfl

theorem Forces.force_fire (x : Forces) (p : Nat × Bool) :
    (x.force p).fire = if p.1 = 80 then ⟨true, p.2⟩ else x.fire := by
  unfold Forces.force
  (repeat' split) <;> simp_all

theorem Forces.force_fault (x : Forces) (p : Nat × Bool) :
    (x.force p).fault = if p.1 = 81 then ⟨true, p.2⟩ else x.fault := by
  unfold Forces.force
  (repeat' split) <;> simp_all

/-- R162: the points of a request among the first `n` places of its mask. -/
def pointsBefore (base : Nat) (mask value : Byte) (n : Nat) : List (Nat × Bool) :=
  ((List.range n).filter fun i => bitOf mask i).map fun i => (base + i, bitOf value i)

theorem maskedPoints_eq {req : Request} {base mask value : Byte} (h : req.data = [base, mask, value]) :
    maskedPoints req = pointsBefore base.toNat mask value 8 := by
  simp [maskedPoints, pointsBefore, reqArg, h]

theorem mem_pointsBefore {base n : Nat} {mask value : Byte} {p : Nat × Bool} : p ∈ pointsBefore base mask value n ↔
    ∃ i < n, mask.getLsbD i = true ∧ p = (base + i, value.getLsbD i) := by
  simp only [pointsBefore, List.mem_map, List.mem_filter, List.mem_range, bitOf, and_assoc, eq_comm (a := p)]

/-- R162: a field of the forces that each masked point of one address writes, after the points of a request. -/
theorem foldl_force_field {field : Forces → Force} {base address : Nat} {mask value : Byte} (x : Forces) :
    ∀ n : Nat, (∀ y : Forces, ∀ i < n, mask.getLsbD i = true → field (y.force (base + i, value.getLsbD i)) =
        if base + i = address then ⟨true, value.getLsbD i⟩ else field y) →
      field ((pointsBefore base mask value n).foldl Forces.force x) =
        if base ≤ address ∧ address - base < n ∧ mask.getLsbD (address - base) = true
        then ⟨true, value.getLsbD (address - base)⟩ else field x
  | 0, _ => by simp [pointsBefore]
  | n + 1, h => by
    have ih := foldl_force_field x n fun y i hi => h y i (by omega)
    have split : pointsBefore base mask value (n + 1) = pointsBefore base mask value n ++
        if mask.getLsbD n then [(base + n, value.getLsbD n)] else [] := by
      cases hm : mask.getLsbD n <;> simp [pointsBefore, List.range_succ, List.filter_append, bitOf, hm]
    rw [split, List.foldl_append]
    cases hm : mask.getLsbD n with
    | false =>
      simp only [Bool.false_eq_true, if_false, List.foldl_nil]
      rw [ih]
      refine if_congr ⟨fun ⟨a, b, c⟩ => ⟨a, by omega, c⟩, fun ⟨a, b, c⟩ => ⟨a, ?_, c⟩⟩ rfl rfl
      rcases Nat.lt_succ_iff_lt_or_eq.mp b with hlt | he
      · exact hlt
      · rw [he, hm] at c; cases c
    | true =>
      simp only [if_true, List.foldl_cons, List.foldl_nil]
      rw [h _ n (by omega) hm, ih]
      by_cases ha : base + n = address
      · have place : address - base = n := by omega
        rw [if_pos ha, if_pos ⟨by omega, by omega, by rw [place, hm]⟩, place]
      · rw [if_neg ha]
        exact if_congr ⟨fun ⟨a, b, c⟩ => ⟨a, by omega, c⟩, fun ⟨a, b, c⟩ => ⟨a, by omega, c⟩⟩ rfl rfl

/-! ### The outcome of a request -/

/-- R162: an address that can be forced. -/
theorem forcible_iff (a : Nat) : forcible a = true ↔ 72 ≤ a ∧ a ≤ 77 ∨ a = 80 ∨ a = 81 := by
  simp only [forcible, inRange, Bool.or_eq_true, Bool.and_eq_true, decide_eq_true_eq]
  tauto

section outcome

variable {s : State} {req : Request} {base mask value : Byte} (data : req.data = [base, mask, value])
include data

theorem State.modifyOutcome_badArg
    (h : 127 < base.toNat ∨ ∃ i < 8, mask.getLsbD i = true ∧ 127 < base.toNat + i) : s.modifyOutcome req = .badArg := by
  rw [State.modifyOutcome, maskedPoints_eq data, if_pos]
  simp only [Bool.or_eq_true, decide_eq_true_eq, List.any_eq_true, reqArg, data, List.getD_cons_zero, Config.pointCount]
  rcases h with hb | ⟨i, hi, hm, ha⟩
  · exact .inl hb
  · exact .inr ⟨_, mem_pointsBefore.mpr ⟨i, hi, hm, rfl⟩, decide_eq_true ha⟩

variable (base_ : base.toNat ≤ 127) (masked : ∀ i < 8, mask.getLsbD i = true → base.toNat + i ≤ 127)
include base_ masked

theorem State.modifyOutcome_inRange : s.modifyOutcome req =
    if s.zone.mode ≠ .hold ∧ s.zone.mode ≠ .normal then .refusedMode
    else if (maskedPoints req).all fun p => forcible p.1 then .ok
    else .refusedPoint := by
  rw [State.modifyOutcome, if_neg]
  simp only [Bool.or_eq_true, decide_eq_true_eq, List.any_eq_true, reqArg, data, List.getD_cons_zero, Config.pointCount,
    maskedPoints_eq data, mem_pointsBefore]
  rintro (hb | ⟨p, ⟨i, hi, hm, rfl⟩, ha⟩)
  · omega
  · have := masked i hi hm
    have high := of_decide_eq_true ha
    simp only at high
    omega

end outcome

theorem maskedPoints_forcible_iff {req : Request} {base mask value : Byte} (data : req.data = [base, mask, value]) :
    ((maskedPoints req).all fun p => forcible p.1) = true ↔ ∀ i < 8, mask.getLsbD i = true →
      72 ≤ base.toNat + i ∧ base.toNat + i ≤ 77 ∨ base.toNat + i = 80 ∨ base.toNat + i = 81 := by
  simp only [List.all_eq_true, maskedPoints_eq data, mem_pointsBefore, forcible_iff]
  constructor
  · intro h i hi hm
    exact h _ ⟨i, hi, hm, rfl⟩
  · rintro h p ⟨i, hi, hm, rfl⟩
    exact h i hi hm

/-- R111: a damper that is not STUCK is not after its answer. -/
theorem State.driven_not_stuck {s : State} {d : DamperId} (h : (s.damper d).state ≠ .stuck) : (s.driven d).state ≠ .stuck := by
  unfold State.driven
  split
  · exact DamperUnit.travelling_not_stuck _ _ _ _
  · exact h

/-- Settles O51: the outcome of a request, the fold of its forces, and the dampers' answer at the end of the event. -/
theorem forcesAreSetAndReleased : Obligations.ForcesAreSetAndReleased := by
  intro s u dt req h hu
  refine ⟨fun base mask value hears data => ?_, fun hears none => ?_⟩
  · have start : exec (.modifyPoints dt req) s = .next (if u.charNow.modifyOutcome req = .ok
        then ((u.charNow.setForces req).respond 0x21 .ok []).finish
        else u.charNow.respond 0x21 (u.charNow.modifyOutcome req) []) := by
      rw [exec_modifyPoints h, hu, State.request_heard hears (by simp [data]) (by simp [data])]
    have free : ∀ m : Mode, m = .hold ∨ m = .normal → ¬ (m ≠ .hold ∧ m ≠ .normal) := by tauto
    refine ⟨fun outside => ?_, fun hb inside => ⟨fun hold normal => ?_, fun mode notForcible => ?_⟩, fun mode all hb => ?_⟩
    · rw [start, State.modifyOutcome_badArg data outside, if_neg (by decide), State.charNow_respond]
    · have outcome : u.charNow.modifyOutcome req = .refusedMode := by
        rw [State.modifyOutcome_inRange data hb inside]; exact if_pos ⟨hold, normal⟩
      rw [start, outcome, if_neg (by decide), State.charNow_respond]
    · have outcome : u.charNow.modifyOutcome req = .refusedPoint := by
        have some : ¬ ((maskedPoints req).all fun p => forcible p.1) = true := by
          obtain ⟨i, hi, hm, other⟩ := notForcible
          rw [maskedPoints_forcible_iff data]
          exact fun all => other (all i hi hm)
        rw [State.modifyOutcome_inRange data hb inside]
        exact (if_neg (free _ mode)).trans (if_neg some)
      rw [start, outcome, if_neg (by decide), State.charNow_respond]
    · have inside : ∀ i < 8, mask.getLsbD i = true → base.toNat + i ≤ 127 := fun i hi hm => by
        have := all i hi hm
        omega
      have outcome : u.charNow.modifyOutcome req = .ok := by
        rw [State.modifyOutcome_inRange data hb inside]
        exact (if_neg (free _ mode)).trans (if_pos ((maskedPoints_forcible_iff data).mpr all))
      rw [if_pos outcome] at start
      have forces : (((u.charNow.setForces req).respond 0x21 .ok []).finish).forces =
          (pointsBefore base.toNat mask value 8).foldl Forces.force u.forces := by
        rw [← maskedPoints_eq data]
        simp [State.setForces]
      refine ⟨_, start, by simp only [State.finish_frame]; rfl, fun d => ?_, ?_, ?_, fun k fitted loose => ?_, by simp [State.setForces],
        by simp [State.setForces], by simp [State.setForces], by simp [State.setForces], by simp [State.setForces],
        by simp [State.setForces], by simp [State.setForces], by simp [State.setForces]⟩
      · rw [forces]
        refine foldl_force_field (field := fun y => y.dampers.get d) u.forces 8 fun y i hi hm => ?_
        have := all i hi hm
        exact Forces.force_damper y (by simp only; omega) d
      · rw [forces]
        exact foldl_force_field (field := Forces.fire) u.forces 8 fun y i _ _ => Forces.force_fire y _
      · rw [forces]
        exact foldl_force_field (field := Forces.fault) u.forces 8 fun y i _ _ => Forces.force_fault y _
      · refine (State.finish_follow _ (.td k) ?_ ?_).symm
        · rw [State.finish_damper, State.driven_fitted]
          exact fitted
        · rw [State.finish_damper]
          exact State.driven_not_stuck loose
  · have start : exec (.releasePoints dt req) s = .next ((u.charNow.releaseForces.respond 0x22 .ok []).finish) := by
      rw [exec_releasePoints h, hu, State.request_heard_empty hears none]
    have forces : ((u.charNow.releaseForces.respond 0x22 .ok []).finish).forces = Forces.clear := by
      simp [State.releaseForces]
    refine ⟨_, start, by simp only [State.finish_frame]; rfl, forces, fun d => ?_, by simp [State.releaseForces],
      by simp [State.releaseForces], by simp [State.releaseForces], by simp [State.releaseForces], by simp [State.releaseForces],
      by simp [State.releaseForces], by simp [State.releaseForces], by simp [State.releaseForces]⟩
    rw [State.effectiveCommand, forces, if_neg (by simp [Forces.clear_flag])]

end Sys2Proof.Machine
end

section
/-! The change of mode, declarations, pre-alarms and resets: what they leave in the Share Computer and the Transmit Unit
(R22 to R24, R58 to R65, R71, R74, R75). -/

namespace Sys2Proof.Machine

/-! ### The demand stage and the notice -/

/-- R155: a notice leaves the Transmit Unit's other fields. -/
@[simp] theorem State.notice_tx_other (s : State) : s.notice.tx.urgent = s.tx.urgent ∧
    s.notice.tx.heartbeat = s.tx.heartbeat ∧ s.notice.tx.spacing = s.tx.spacing ∧ s.notice.tx.slot = s.tx.slot ∧
    s.notice.tx.requests = s.tx.requests := by
  unfold State.notice
  (repeat' split) <;> exact ⟨rfl, rfl, rfl, rfl, rfl⟩

/-- R155: once pending, a status stays pending through a notice, and so does the change mark. -/
theorem State.notice_tx_kept (s : State) : (s.tx.statusPending = true → s.notice.tx.statusPending = true) ∧
    (s.tx.changeMark = true → s.notice.tx.changeMark = true) := by
  unfold State.notice
  split
  · exact ⟨id, id⟩
  · exact ⟨id, id⟩
  · exact ⟨fun h => by simp [h], fun _ => rfl⟩

@[simp] theorem State.recompute_tx_other (s : State) : s.recompute.tx.urgent = s.tx.urgent ∧
    s.recompute.tx.heartbeat = s.tx.heartbeat ∧ s.recompute.tx.spacing = s.tx.spacing := by
  unfold State.recompute
  split
  · exact ⟨rfl, rfl, rfl⟩
  · simp [State.requestPass]

theorem State.recompute_statusPending {s : State} (h : s.tx.statusPending = true) : s.recompute.tx.statusPending = true := by
  unfold State.recompute
  split
  · exact h
  · exact (State.notice_tx_kept _).1 h

/-! ### The change of mode -/

theorem State.fmaxEff_of_fans {s t : State} (fans : t.fans = s.fans) (cfg : t.cfg = s.cfg) : t.fmaxEff = s.fmaxEff :=
  State.SameFaults.fmaxEff (fun f => by rw [State.fan_congr fans f]) cfg

/-- R71: the mode, its timers and the forces, before the demand stage. -/
def State.setMode (s : State) (m : Mode) : State :=
  { s with zone := { s.zone with mode := m, listen := s.listenTimerFor m, purge := s.purgeTimerFor m }
           forces := if m.dropsForces then Forces.clear else s.forces }

/-- R71, R154: the heartbeat starts as the mode leaves LISTEN. -/
def State.setModeTimed (s : State) (m : Mode) : State :=
  if s.zone.mode = .listen then (s.setMode m).startHeartbeat else s.setMode m

/-- R71: a change of mode in its steps. -/
theorem State.enterMode_eq (s : State) (m : Mode) : s.enterMode m =
    if m = .fire then ((s.setModeTimed m).recompute.reclaim .A).reclaim .B else (s.setModeTimed m).recompute := rfl

@[simp] theorem State.setModeTimed_frame (s : State) (m : Mode) : (s.setModeTimed m).tu = s.tu ∧
    (s.setModeTimed m).store = s.store ∧ (s.setModeTimed m).fans = s.fans ∧ (s.setModeTimed m).monitor = s.monitor ∧
    (s.setModeTimed m).fume = s.fume ∧ (s.setModeTimed m).share = s.share ∧ (s.setModeTimed m).zone.mode = m ∧
    (s.setModeTimed m).tx.urgent = s.tx.urgent := by
  unfold State.setModeTimed
  split <;> exact ⟨rfl, rfl, rfl, rfl, rfl, rfl, rfl, rfl⟩

/-- R22, R23, R71: the own class and demand on entry to a mode. -/
theorem State.enterMode_share (s : State) (m : Mode) :
    (s.enterMode m).share.cls = ownClassFor m s.fume.cls s.monitor.decl ∧
    (s.enterMode m).share.demand = ownDemandFor m (ownClassFor m s.fume.cls s.monitor.decl) s.cfg s.fmaxEff := by
  have same : (s.enterMode m).share = (s.setModeTimed m).recompute.share := by
    rw [State.enterMode_eq]
    split <;> simp
  have cfg : (s.setModeTimed m).cfg = s.cfg := State.cfg_of_store (by simp)
  have fmax : (s.setModeTimed m).fmaxEff = s.fmaxEff := State.fmaxEff_of_fans (by simp) cfg
  obtain ⟨cls, demand, -⟩ := (s.setModeTimed m).recompute_share
  rw [same, cls, demand, State.demandNow, State.classNow, cfg, fmax]
  simp

@[simp] theorem State.enterMode_urgent (s : State) (m : Mode) : (s.enterMode m).tx.urgent = s.tx.urgent := by
  rw [State.enterMode_eq]
  split <;> simp

/-- R154: outside LISTEN a change of mode leaves the heartbeat, and out of LISTEN it starts it. -/
theorem State.enterMode_heartbeat (s : State) (m : Mode) : (s.enterMode m).tx.heartbeat =
    if s.zone.mode = .listen then some (tuAfter s.tu (s.cfg.period * 1000)) else s.tx.heartbeat := by
  have same : (s.enterMode m).tx.heartbeat = (s.setModeTimed m).tx.heartbeat := by
    rw [State.enterMode_eq]
    split <;> simp
  rw [same, State.setModeTimed]
  split <;> rfl

/-- R154: a status is pending as the mode leaves LISTEN. -/
theorem State.enterMode_statusPending {s : State} (m : Mode) (h : s.zone.mode = .listen) :
    (s.enterMode m).tx.statusPending = true := by
  have pending : (s.setModeTimed m).recompute.tx.statusPending = true :=
    State.recompute_statusPending (by rw [State.setModeTimed, if_pos h]; rfl)
  rw [State.enterMode_eq]
  split <;> simp [pending]

/-- Settles O14: entry to NORMAL from either mode. -/
theorem listenAndPurgeEndInNormal : Obligations.ListenAndPurgeEndInNormal := by
  intro s u dt e c h hu due_ hc
  have start : exec c s = .next (u.enterMode .normal).finish := by
    rcases hc with ⟨rfl, mode, timer⟩ | ⟨rfl, mode, timer⟩
    · rw [exec, execListenTimerExpiry, live_released _ _ _ h, hu, if_pos ⟨mode, by rw [timer]; exact due_⟩]
    · rw [exec, execPurgeTimerExpiry, live_released _ _ _ h, hu, if_pos ⟨mode, by rw [timer]; exact due_⟩]
  obtain ⟨cls, demand⟩ := u.enterMode_share .normal
  refine ⟨_, start, by simp [State.listenTimerFor, State.purgeTimerFor], by simp [cls, ownClassFor], by simp [cls, demand, ownDemandFor],
    fun listen => ⟨?_, ?_⟩, fun purge => ?_, by simp, by simp [Mode.dropsForces], by simp, by simp, by simp, by simp, by simp,
    by simp, by simp, by simp⟩
  · simp [State.enterMode_heartbeat, listen]
  · simp [State.enterMode_statusPending .normal listen]
  · simp [State.enterMode_heartbeat, purge]

/-! ### Declarations -/

/-- R62, R74: what a declaration leaves in the Share Computer and the URGENT slot. -/
theorem State.declare_share (s : State) (c : FireCause) : (s.declare c).share.cls = .fire ∧
    (s.declare c).share.demand = s.fmaxEff * s.cfg.fireLevel / 1000 ∧
    (s.declare c).tx.urgent = some (.fireAlarm c (s.fmaxEff * s.cfg.fireLevel / 1000)) := by
  obtain ⟨w, hw⟩ : ∃ w, w = State.enterMode
    { s with monitor := { s.monitor with decl := .declared, cause := some c, confirm := none } } .fire := ⟨_, rfl⟩
  have entered : w.share.cls = .fire ∧ w.share.demand = s.fmaxEff * s.cfg.fireLevel / 1000 := by
    rw [hw]
    exact State.enterMode_share _ .fire
  obtain ⟨cls, demand⟩ := entered
  rw [State.declare, ← hw]
  split <;> simp [State.queueUrgent, cls, demand]

/-- R57: a point's activation, its filter run having lasted 200 ms. -/
theorem exec_activation {s u : State} {dt r : Tu} {i : InputId} (h : s.released = true) (hu : s.elapse dt = u)
    (run : u.monitor.run.get i = some r) (lasted : reached u.tu (tuAfter r 2000) = true) (raw : u.pins.raw.get i = true)
    (filtered : u.monitor.filtered.get i = false) :
    exec (.activation dt i) s = .next ((u.setFiltered i true).afterActivation i).finish := by
  have runs : u.runDue i = true := by
    unfold State.runDue
    rw [run]
    exact lasted
  rw [exec, execActivation, live_released _ _ _ h, hu, if_pos (by rw [runs, raw, filtered]; rfl)]

theorem exec_deactivation {s u : State} {dt r : Tu} {i : InputId} (h : s.released = true) (hu : s.elapse dt = u)
    (run : u.monitor.run.get i = some r) (lasted : reached u.tu (tuAfter r 2000) = true) (raw : u.pins.raw.get i = false)
    (filtered : u.monitor.filtered.get i = true) :
    exec (.deactivation dt i) s = .next ((u.setFiltered i false).afterDeactivation i).finish := by
  have runs : u.runDue i = true := by
    unfold State.runDue
    rw [run]
    exact lasted
  rw [exec, execDeactivation, live_released _ _ _ h, hu, if_pos (by rw [runs, raw, filtered]; rfl)]

theorem State.setFiltered_fmaxEff (s : State) (i : InputId) (b : Bool) : (s.setFiltered i b).fmaxEff = s.fmaxEff :=
  State.fmaxEff_of_fans rfl rfl

/-- R55, R57: the activation of a HEAT, MANUAL or PANEL point before any declaration. -/
theorem State.pointActivated_declares {s : State} {p : Ix4} {c : FireCause} (decl : s.monitor.decl ≠ .declared)
    (type : s.cfg.types.get p = .heat ∧ c = .heat ∨ s.cfg.types.get p = .manual ∧ c = .manual ∨
      s.cfg.types.get p = .panel ∧ c = .panel) :
    s.pointActivated p = State.declare { s with monitor := { s.monitor with
      latch := if c = .panel then s.monitor.latch else s.monitor.latch.set p true } } c := by
  unfold State.pointActivated
  rcases type with ⟨type, rfl⟩ | ⟨type, rfl⟩ | ⟨type, rfl⟩ <;> rw [type] <;> exact if_neg decl

/-- Settles O9: a declaration after the point's latch is set. -/
theorem firePointDeclares : Obligations.FirePointDeclares := by
  intro s u dt r p c h hu run lasted raw filtered evaluation decl type
  obtain ⟨w, hw⟩ : ∃ w : State, w = { u.setFiltered (.point p) true with monitor := { (u.setFiltered (.point p) true).monitor with
    latch := if c = .panel then u.monitor.latch else u.monitor.latch.set p true } } := ⟨_, rfl⟩
  have start : exec (.activation dt (.point p)) s = .next (w.declare c).finish := by
    have on : (u.setFiltered (.point p) true).monitor.evaluation = true := evaluation
    rw [exec_activation h hu run lasted raw filtered, State.afterActivation, if_pos on,
      State.pointActivated_declares (s := u.setFiltered (.point p) true) (c := c) decl type, hw]
    rfl
  obtain ⟨cls, demand, urgent⟩ := w.declare_share c
  have fmax : w.fmaxEff = u.fmaxEff := State.fmaxEff_of_fans (by rw [hw]; rfl) (by rw [hw]; rfl)
  have cfg : w.cfg = u.cfg := by rw [hw]; rfl
  rw [fmax, cfg] at demand urgent
  exact ⟨_, start, by simp [hw, State.setFiltered], by simp [hw, State.setFiltered], by simp, by simp [cls], by simp [demand],
    by simp [urgent], by simp [hw, State.setFiltered], by simp [hw, State.setFiltered], by simp [hw, State.setFiltered],
    by simp [hw, State.setFiltered], by simp [hw, State.setFiltered], by simp [hw, State.setFiltered],
    by simp [hw, State.setFiltered], by simp [hw, State.setFiltered]⟩

/-- Settles O12: the confirmation timer declares. -/
theorem confirmationDeclares : Obligations.ConfirmationDeclares := by
  intro s u dt e h hu evaluation decl confirm expired
  have start : exec (.confirmationTimerExpiry dt) s = .next (u.declare .smokeConfirmed).finish := by
    rw [exec, execConfirmationTimerExpiry, live_released _ _ _ h, hu,
      if_pos ⟨evaluation, decl, by rw [confirm]; exact expired⟩]
  obtain ⟨-, -, urgent⟩ := u.declare_share .smokeConfirmed
  exact ⟨_, start, by simp, by simp, by simp, by simp [urgent], by simp, by simp, by simp, by simp, by simp, by simp, by simp⟩

/-! ### The points of a type -/

theorem State.mem_activeOfType (s : State) (ty : PointType) (p : Ix4) :
    p ∈ s.activeOfType ty ↔ s.cfg.types.get p = ty ∧ s.monitor.filtered.get (.point p) = true := by
  have all : p ∈ Ix4.all := by cases p <;> decide
  simp [State.activeOfType, all]

theorem State.smokeCount_eq_zero (s : State) :
    s.smokeCount = 0 ↔ ∀ p, s.cfg.types.get p = .smoke → s.monitor.filtered.get (.point p) = false := by
  rw [State.smokeCount, List.length_eq_zero_iff, List.eq_nil_iff_forall_not_mem]
  simp only [State.mem_activeOfType, not_and, Bool.not_eq_true]

/-- R52: two active SMOKE points count as two or more. -/
theorem State.two_le_smokeCount {s : State} {p q : Ix4} (ne : q ≠ p) (hp : p ∈ s.activeOfType .smoke)
    (hq : q ∈ s.activeOfType .smoke) : 2 ≤ s.smokeCount := by
  rw [State.smokeCount]
  match h : s.activeOfType .smoke with
  | [] => rw [h] at hp; cases hp
  | [x] =>
    rw [h, List.mem_singleton] at hp hq
    exact absurd (hq.trans hp.symm) ne
  | _ :: _ :: _ => simp

theorem State.anyPhysicallyActive_iff (s : State) : s.anyPhysicallyActive = true ↔ ∃ p, s.physicallyActive p = true := by
  rw [State.anyPhysicallyActive, List.any_eq_true]
  exact ⟨fun ⟨p, _, hp⟩ => ⟨p, hp⟩, fun ⟨p, hp⟩ => ⟨p, by cases p <;> decide, hp⟩⟩

/-! ### Resets -/

theorem State.resetOutcome_ok_iff (s : State) :
    s.resetOutcome = .ok ↔ s.zone.mode = .fire ∧ ∀ p, s.physicallyActive p = false := by
  have any : s.anyPhysicallyActive = true ↔ ¬ ∀ p, s.physicallyActive p = false := by
    rw [s.anyPhysicallyActive_iff]
    simp
  unfold State.resetOutcome
  by_cases mode : s.zone.mode = .fire
  · by_cases act : s.anyPhysicallyActive = true
    · simp [mode, act, any.mp act]
    · simp only [mode, act, ne_eq, not_true_eq_false, if_false, true_and, true_iff, Bool.false_eq_true]
      exact not_not.mp (mt any.mpr act)
  · simp [mode]

/-- R65, R75: what an accepted reset leaves of the monitor, the mode and the URGENT slot. -/
theorem State.acceptReset_spec (s : State) (src : ResetSource) :
    (s.acceptReset src).monitor = { s.monitor with latch := Quad.all false, decl := .clear, cause := none, confirm := none } ∧
    (s.acceptReset src).zone = { s.zone with mode := s.modeAfterReset, listen := s.listenTimerFor s.modeAfterReset
                                             purge := s.purgeTimerFor s.modeAfterReset } ∧
    (s.acceptReset src).tx.urgent = some (.fireReset src) ∧
    (s.acceptReset src).share.cls = ownClassFor s.modeAfterReset s.fume.cls .clear ∧
    (s.acceptReset src).share.demand =
      ownDemandFor s.modeAfterReset (ownClassFor s.modeAfterReset s.fume.cls .clear) s.cfg s.fmaxEff := by
  obtain ⟨w, hw⟩ : ∃ w : State, w = { s with monitor := { s.monitor with
    latch := Quad.all false, decl := .clear, cause := none, confirm := none } } := ⟨_, rfl⟩
  have reset : s.acceptReset src = (w.enterMode s.modeAfterReset).queueUrgent (.fireReset src) := by rw [hw]; rfl
  obtain ⟨cls, demand⟩ := w.enterMode_share s.modeAfterReset
  have fmax : w.fmaxEff = s.fmaxEff := State.fmaxEff_of_fans (by rw [hw]) (by rw [hw]; rfl)
  have cfg : w.cfg = s.cfg := by rw [hw]; rfl
  rw [fmax, cfg] at demand
  have inputs : w.fume = s.fume ∧ w.monitor.decl = .clear := by rw [hw]; exact ⟨rfl, rfl⟩
  obtain ⟨fume, decl⟩ := inputs
  rw [fume, decl] at cls demand
  rw [reset]
  refine ⟨by simp [hw], ?_, rfl, cls, demand⟩
  show (w.enterMode s.modeAfterReset).zone = _
  rw [State.enterMode_zone, hw]
  rfl

theorem State.modeAfterReset_purge (s : State) : s.modeAfterReset = .purge ↔ s.zone.contain = [] ∧ 0 < s.cfg.purgeTime := by
  unfold State.modeAfterReset
  (repeat' split) <;> simp_all

/-- Settles O13: a reset request by its outcome. -/
theorem keyResetsTheFire : Obligations.KeyResetsTheFire := by
  intro s u dt r h hu run lasted raw filtered
  obtain ⟨w, hw⟩ : ∃ w, w = u.setFiltered .key true := ⟨_, rfl⟩
  have start : exec (.activation dt .key) s = .next (w.resetRequest .key).finish := by
    rw [exec_activation h hu run lasted raw filtered, State.afterActivation, hw]
  have mode : w.zone = u.zone := by rw [hw]; rfl
  have active : ∀ p, w.physicallyActive p = u.physicallyActive p := fun p => by
    rw [hw]; cases p <;> rfl
  have frame : w.view = u.view ∧ w.fume = u.fume ∧ w.line = u.line ∧ w.rx = u.rx ∧ w.port = u.port ∧ w.tu = u.tu ∧
      w.cfg = u.cfg ∧ w.forces = u.forces ∧ w.tx = u.tx := by
    rw [hw]; exact ⟨rfl, rfl, rfl, rfl, rfl, rfl, rfl, rfl, rfl⟩
  obtain ⟨view, fume, line, rx, port, tu, cfg, forces, tx⟩ := frame
  have monitor : w.monitor = { u.monitor with filtered := u.monitor.filtered.set .key true
                                              run := u.monitor.run.set .key none } := by rw [hw]; rfl
  have outcome := w.resetOutcome_ok_iff
  simp only [mode, active] at outcome
  by_cases ok : w.resetOutcome = .ok
  · obtain ⟨fire, none⟩ := outcome.mp ok
    rw [State.resetRequest, if_pos ok] at start
    obtain ⟨rmonitor, rzone, urgent, -, -⟩ := w.acceptReset_spec .key
    have after : w.modeAfterReset = u.modeAfterReset := by rw [State.modeAfterReset, State.modeAfterReset, mode, cfg]
    refine ⟨_, start, by simp [rmonitor, monitor], by simp [rzone, mode], by simp [view], by simp [fume], by simp [line], by simp [rx],
      by simp [port], fun _ _ => ⟨by simp [rmonitor], by simp [rmonitor], by simp [rmonitor], ?_, ?_, by simp [urgent]⟩,
      fun refused => ?_⟩
    · simp only [State.finish_frame, rzone, after]
      rfl
    · simp only [State.finish_frame, rzone, after, State.purgeTimerFor, tu, cfg]
      exact if_congr u.modeAfterReset_purge rfl rfl
    · rcases refused with hm | ⟨p, hp⟩
      · exact absurd fire hm
      · simp [none p] at hp
  · rw [State.resetRequest, if_neg ok] at start
    have refused : ¬ (u.zone.mode = .fire ∧ ∀ p, u.physicallyActive p = false) := mt outcome.mpr ok
    exact ⟨_, start, by simp [monitor], by simp [mode], by simp [view], by simp [fume], by simp [line], by simp [rx], by simp [port],
      fun fire none => absurd ⟨fire, none⟩ refused, fun _ => ⟨by simp [monitor], by simp [mode], by simp [forces], by simp [tx]⟩⟩

/-- Settles O52: the outcome of the reset request, and an accepted reset. -/
theorem serviceResetsTheFire : Obligations.ServiceResetsTheFire := by
  intro s u dt req h hu hears none
  have start : exec (.fireReset dt req) s = .next (if u.charNow.resetOutcome = .ok
      then ((u.charNow.acceptReset .service).respond 0x30 .ok []).finish
      else u.charNow.respond 0x30 u.charNow.resetOutcome []) := by
    rw [exec_fireReset h, hu, State.request_heard_empty hears none]
  have active : ∀ p, u.charNow.physicallyActive p = true ↔ u.cfg.types.get p ≠ .unused ∧ u.monitor.filtered.get (.point p) = true :=
    fun p => by rw [State.physicallyActive, Bool.and_eq_true, decide_eq_true_iff]; rfl
  refine ⟨fun mode => ?_, fun mode some => ?_, fun mode quiet => ?_⟩
  · have outcome : u.charNow.resetOutcome = .refusedMode := if_pos mode
    rw [start, outcome, if_neg (by decide), State.charNow_respond]
  · have outcome : u.charNow.resetOutcome = .refusedActive := by
      obtain ⟨p, hp⟩ := some
      have any : u.charNow.anyPhysicallyActive = true := (State.anyPhysicallyActive_iff _).mpr ⟨p, (active p).mpr hp⟩
      rw [State.resetOutcome, if_neg (show ¬ u.charNow.zone.mode ≠ .fire from not_not.mpr mode), if_pos any]
    rw [start, outcome, if_neg (by decide), State.charNow_respond]
  · have ok : u.charNow.resetOutcome = .ok := (State.resetOutcome_ok_iff _).mpr ⟨mode, fun p => by
      rw [← Bool.not_eq_true, active p]
      rintro ⟨used, on⟩
      rcases quiet p with hu | hf
      · exact used hu
      · simp [hf] at on⟩
    rw [if_pos ok] at start
    obtain ⟨monitor, zone, urgent, cls, demand⟩ := u.charNow.acceptReset_spec .service
    refine ⟨_, start, ?_, by simp [monitor], by simp [urgent], by simp [zone], ?_, fun purge => ?_, by simp, by simp, by simp, by simp,
      by simp, by simp⟩
    · simp only [State.finish_frame, State.respond, State.acceptReset_frame]
      rfl
    · simp only [State.finish_frame, State.respond_frame, zone]
      rfl
    · simp only [State.finish_frame, State.respond_frame, zone] at purge
      simp only [State.finish_share, State.finish_frame, State.respond_frame, zone, cls, demand, purge, State.purgeTimerFor, if_true]
      exact ⟨rfl, rfl, rfl⟩

/-! ### Pre-alarms -/

theorem State.clearPreAlarm_spec (s : State) :
    s.clearPreAlarm.monitor = { s.monitor with decl := .clear, confirm := none } ∧ s.clearPreAlarm.tx.urgent = s.tx.urgent := by
  simp [State.clearPreAlarm]

/-- Settles O11: `clearPreAlarm` where the smoke count has become 0. -/
theorem deactivationEndsPreAlarm : Obligations.DeactivationEndsPreAlarm := by
  intro s u dt r p h hu run lasted raw filtered
  obtain ⟨w, hw⟩ : ∃ w, w = u.setFiltered (.point p) false := ⟨_, rfl⟩
  have frame : w.view = u.view ∧ w.fume = u.fume ∧ w.line = u.line ∧ w.rx = u.rx ∧ w.port = u.port ∧ w.zone = u.zone ∧
      w.cfg = u.cfg ∧ w.forces = u.forces ∧ w.tx = u.tx := by
    rw [hw]; exact ⟨rfl, rfl, rfl, rfl, rfl, rfl, rfl, rfl, rfl⟩
  obtain ⟨view, fume, line, rx, port, zone, cfg, forces, tx⟩ := frame
  have monitor : w.monitor = { u.monitor with filtered := u.monitor.filtered.set (.point p) false
                                              run := u.monitor.run.set (.point p) none } := by rw [hw]; rfl
  have count : w.smokeCount = 0 ↔ ∀ q, q ≠ p → u.cfg.types.get q = .smoke → u.monitor.filtered.get (.point q) = false := by
    rw [w.smokeCount_eq_zero, cfg, monitor]
    simp only [Inputs.get_set, InputId.point.injEq]
    refine forall_congr' fun q => ?_
    by_cases hq : q = p <;> simp [hq]
  have start : exec (.deactivation dt (.point p)) s = .next (if w.monitor.evaluation = true ∧ w.cfg.types.get p = .smoke ∧
      w.monitor.decl = .preAlarm ∧ w.smokeCount = 0 then w.clearPreAlarm else w).finish := by
    rw [exec_deactivation h hu run lasted raw filtered, State.afterDeactivation, hw]
  by_cases ends : w.monitor.evaluation = true ∧ w.cfg.types.get p = .smoke ∧ w.monitor.decl = .preAlarm ∧ w.smokeCount = 0
  · obtain ⟨cleared, urgent⟩ := w.clearPreAlarm_spec
    rw [if_pos ends] at start
    obtain ⟨evaluation, type, decl, none⟩ := ends
    refine ⟨_, start, by simp [cleared, monitor], by simp [cleared, monitor], by simp [cleared, monitor], by simp [zone],
      by simp [forces], by simp [urgent, tx], by simp [view], by simp [fume], by simp [line], by simp [rx], by simp [port],
      fun _ _ _ _ => by simp [cleared], fun not => ?_⟩
    simp only [monitor, cfg] at evaluation type decl
    rcases not with he | hd | ht | ⟨q, hq, hs, hf⟩
    · simp [he] at evaluation
    · exact absurd decl hd
    · exact absurd type ht
    · simp [count.mp none q hq hs] at hf
  · rw [if_neg ends] at start
    refine ⟨_, start, by simp [monitor], by simp [monitor], by simp [monitor], by simp [zone], by simp [forces], by simp [tx],
      by simp [view], by simp [fume], by simp [line], by simp [rx], by simp [port], fun he hd ht others => ?_,
      fun _ => by simp [monitor]⟩
    exact absurd ⟨by rw [monitor]; exact he, by rw [cfg]; exact ht, by rw [monitor]; exact hd, count.mpr others⟩ ends

/-- R58, R62: what the entry to PRE_ALARM leaves. -/
theorem State.enterPreAlarm_spec (s : State) :
    s.enterPreAlarm.monitor = { s.monitor with
      decl := .preAlarm, confirm := some (tuAfter s.tu (s.cfg.confirmTime * 10000)) } ∧
    s.enterPreAlarm.tx.urgent = s.tx.urgent ∧
    (s.zone.mode = .normal → s.enterPreAlarm.share.cls = .fume3 ∧
      s.enterPreAlarm.share.demand = s.fmaxEff * s.cfg.fume3Level / 1000) ∧
    (s.zone.mode ≠ .hold → s.zone.mode ≠ .listen → s.enterPreAlarm.tx.changeMark = true ∧
      (s.tx.spacing = none → s.enterPreAlarm.tx.statusPending = true)) := by
  obtain ⟨w, hw⟩ : ∃ w : State, w = { s with monitor := { s.monitor with
    decl := .preAlarm, confirm := some (tuAfter s.tu (s.cfg.confirmTime * Config.secondTu)) } } := ⟨_, rfl⟩
  have entered : s.enterPreAlarm = w.recompute.notice := by rw [hw]; rfl
  have fmax : w.fmaxEff = s.fmaxEff := State.fmaxEff_of_fans (by rw [hw]) (by rw [hw]; rfl)
  have inputs : w.zone = s.zone ∧ w.monitor.decl = .preAlarm ∧ w.cfg = s.cfg ∧ w.tx = s.tx := by
    rw [hw]; exact ⟨rfl, rfl, rfl, rfl⟩
  obtain ⟨zone, decl, cfg, tx⟩ := inputs
  rw [entered]
  refine ⟨by simp [hw, Config.secondTu], by simp [tx], fun normal => ?_, fun hold listen => ?_⟩
  · obtain ⟨cls, demand, -⟩ := w.recompute_share
    have own : w.classNow = .fume3 := by simp [State.classNow, zone, normal, ownClassFor, decl]
    have share : w.recompute.notice.share = w.recompute.share := by simp
    rw [share, cls, demand, State.demandNow, zone, normal, own, cfg, fmax]
    exact ⟨rfl, rfl⟩
  · rw [State.notice_tx (by simpa [zone] using hold) (by simpa [zone] using listen)]
    exact ⟨rfl, fun none => by simp [tx, none]⟩

/-- R109, R111: a damper commanded closed, and not STUCK, is closed or closing as the event ends. -/
theorem State.finish_closes {s : State} {d : DamperId} (shut : s.effectiveCommand d = false) (fitted : (s.damper d).fitted = true)
    (loose : (s.damper d).state ≠ .stuck) :
    (s.finish.damper d).state = .closed ∨ (s.finish.damper d).state = .closing := by
  have moved : (s.finish.damper d).state ≠ .stuck := by
    rw [State.finish_damper]; exact State.driven_not_stuck loose
  have follow := s.finish_follow d (by rw [State.finish_damper, State.driven_fitted, fitted]) moved
  rw [State.finish_command, shut] at follow
  cases hs : (s.finish.damper d).state <;> simp_all

/-- Settles O10: the first SMOKE point by the confirmation time, and the second. -/
theorem smokePointPreAlarms : Obligations.SmokePointPreAlarms := by
  intro s u dt r p h hu run lasted raw filtered evaluation type
  obtain ⟨w, hw⟩ : ∃ w, w = u.setFiltered (.point p) true := ⟨_, rfl⟩
  have frame : w.view = u.view ∧ w.fume = u.fume ∧ w.line = u.line ∧ w.rx = u.rx ∧ w.zone = u.zone ∧ w.tu = u.tu ∧
      w.cfg = u.cfg ∧ w.forces = u.forces ∧ w.tx = u.tx ∧ w.fmaxEff = u.fmaxEff ∧ w.dampers = u.dampers := by
    rw [hw]; exact ⟨rfl, rfl, rfl, rfl, rfl, rfl, rfl, rfl, rfl, u.setFiltered_fmaxEff _ _, rfl⟩
  obtain ⟨view, fume, line, rx, zone, tu, cfg, forces, tx, fmax, dampers⟩ := frame
  have monitor : w.monitor = { u.monitor with filtered := u.monitor.filtered.set (.point p) true
                                              run := u.monitor.run.set (.point p) none } := by rw [hw]; rfl
  have start : exec (.activation dt (.point p)) s = .next w.smokeActivated.finish := by
    have on : (u.setFiltered (.point p) true).monitor.evaluation = true := evaluation
    rw [exec_activation h hu run lasted raw filtered, State.afterActivation, if_pos on, ← hw]
    unfold State.pointActivated
    rw [cfg, type]
  have declares : ∀ c, w.smokeActivated = w.declare c → ∃ t, exec (.activation dt (.point p)) s = .next t ∧
      t.monitor.filtered = u.monitor.filtered.set (.point p) true ∧ t.monitor.latch = u.monitor.latch ∧
      t.zone.contain = u.zone.contain ∧ t.view = u.view ∧ t.fume = u.fume ∧ t.line = u.line ∧ t.rx = u.rx ∧
      t.monitor.decl = .declared ∧ t.monitor.cause = some c ∧ t.monitor.confirm = none ∧ t.zone.mode = .fire := fun c hc =>
    ⟨_, by rw [start, hc], by simp [monitor], by simp [monitor], by simp [zone], by simp [view], by simp [fume], by simp [line],
      by simp [rx], by simp, by simp, by simp, by simp⟩
  cases hd : u.monitor.decl with
  | clear =>
    have decl : w.monitor.decl = .clear := by rw [monitor]; exact hd
    by_cases instant : u.cfg.confirmTime = 0
    · have now : w.smokeActivated = w.declare .smokeConfirmed := by
        unfold State.smokeActivated
        rw [decl]
        exact if_pos (by rw [cfg]; exact instant)
      obtain ⟨t, ht, f, l, c, v, fu, li, rx, d⟩ := declares _ now
      exact ⟨t, ht, f, l, c, v, fu, li, rx, fun _ later => absurd instant (by omega), fun _ _ => d, fun other => by simp at other⟩
    · have now : w.smokeActivated = w.enterPreAlarm := by
        unfold State.smokeActivated
        rw [decl]
        exact if_neg (by rw [cfg]; exact instant)
      obtain ⟨pmonitor, urgent, share, told⟩ := w.enterPreAlarm_spec
      rw [now] at start
      refine ⟨_, start, by simp [pmonitor, monitor], by simp [pmonitor, monitor], by simp [zone], by simp [view], by simp [fume],
        by simp [line], by simp [rx], fun _ _ => ⟨by simp [pmonitor], by simp [pmonitor, monitor], by simp [zone], by simp [forces],
          by simp [pmonitor, tu, cfg], by simp [urgent, tx], fun normal => ?_, fun k free => ?_, fun hold listen => ?_⟩,
        fun _ none => absurd none instant, fun other => by simp at other⟩
      · obtain ⟨cls, demand⟩ := share (by rw [zone]; exact normal)
        exact ⟨by simp [cls], by simp [demand, fmax, cfg]⟩
      · have shut : w.enterPreAlarm.effectiveCommand (.td k) = false := by
          refine State.effectiveCommand_td_of_closed ?_ (by simp [forces, free])
          unfold State.transferOpen
          rw [pmonitor]
          split <;> simp
        refine ⟨by rw [State.finish_command, shut], fun fitted loose => State.finish_closes shut ?_ ?_⟩
        · rw [State.damper_congr (s := u) (by simp [dampers])]; exact fitted
        · rw [State.damper_congr (s := u) (by simp [dampers])]; exact loose
      · obtain ⟨mark, pending⟩ := told (by rw [zone]; exact hold) (by rw [zone]; exact listen)
        exact ⟨by simp [mark], fun none => by simp [pending (by rw [tx]; exact none)]⟩
  | preAlarm =>
    have decl : w.monitor.decl = .preAlarm := by rw [monitor]; exact hd
    by_cases second : 2 ≤ w.smokeCount
    · have now : w.smokeActivated = w.declare .smokeTwo := by
        unfold State.smokeActivated
        rw [decl]
        exact if_pos second
      obtain ⟨t, ht, f, l, c, v, fu, li, rx, d⟩ := declares _ now
      exact ⟨t, ht, f, l, c, v, fu, li, rx, fun other => by simp at other, fun other => by simp at other, fun _ _ => d⟩
    · have now : w.smokeActivated = w := by
        unfold State.smokeActivated
        rw [decl]
        exact if_neg second
      rw [now] at start
      refine ⟨_, start, by simp [monitor], by simp [monitor], by simp [zone], by simp [view], by simp [fume], by simp [line],
        by simp [rx], fun other => by simp at other, fun other => by simp at other, fun _ ⟨q, ne, qtype, on⟩ => absurd ?_ second⟩
      refine State.two_le_smokeCount (p := p) (q := q) ne ((w.mem_activeOfType _ _).mpr ?_) ((w.mem_activeOfType _ _).mpr ?_)
      · rw [cfg, monitor]; simp [type]
      · rw [cfg, monitor]; simp [qtype, ne, on]
  | declared =>
    have now : w.smokeActivated = w := by
      unfold State.smokeActivated
      rw [show w.monitor.decl = .declared by rw [monitor]; exact hd]
    rw [now] at start
    exact ⟨_, start, by simp [monitor], by simp [monitor], by simp [zone], by simp [view], by simp [fume], by simp [line],
      by simp [rx], fun other => by simp at other, fun other => by simp at other, fun other => by simp at other⟩

end Sys2Proof.Machine
end

section
/-! The Peer View: the frames it digests (1.4 to 1.6). -/

namespace Sys2Proof.Machine

/-! ### Taking the next frame -/

/-- R6: the state with the next frame's place freed. -/
def State.withFifos (s : State) (a b : List FifoEntry) : State := { s with rx := { s.rx with fifoA := a, fifoB := b } }

theorem State.popFrame_eq {s : State} {x : FifoEntry} {a b : List FifoEntry} (h : s.TakesNext x a b) :
    s.nextFrame = some x ∧ s.popFrame = s.withFifos a b := by
  unfold State.nextFrame State.popFrame State.withFifos
  rcases h with ⟨ha, hb⟩ | ⟨ha, rfl, hb⟩
  · rw [ha, ← hb]; exact ⟨rfl, rfl⟩
  · rw [ha, hb]
    refine ⟨rfl, ?_⟩
    conv_rhs => rw [← ha]
    rfl

theorem State.mayDigest_of_ready {s : State} (h : s.ReadyToDigest) : s.mayDigest = true := by
  obtain ⟨valid, pass, -, -⟩ := h
  simp [State.mayDigest, valid, State.frozen, pass]

section digest

variable {s u : State} {dt : Tu} {x : FifoEntry} {ra rb : List FifoEntry} (h : s.released = true) (hu : s.elapse dt = u)
  (ready : u.ReadyToDigest) (next : u.TakesNext x ra rb)
include h hu ready next

theorem exec_digestZoneStatus {cls : Byte} {demand : BitVec 16} {flags : PeerFlags} {period : Byte}
    (body : x.body = .zoneStatus cls demand flags period) :
    exec (.digestZoneStatus dt) s = .next ((u.withFifos ra rb).takeStatus x cls demand flags period).finish := by
  obtain ⟨front, pop⟩ := State.popFrame_eq next
  obtain ⟨o, hit, a, b⟩ := x
  simp only at body
  subst body
  rw [exec, execDigestZoneStatus, live_released _ _ _ h, hu, State.mayDigest_of_ready ready, front, ← pop]

theorem exec_digestFireAlarm {demand : BitVec 16} (body : x.body = .fireAlarm demand) :
    exec (.digestFireAlarm dt) s = .next ((u.withFifos ra rb).takeAlarm x demand).finish := by
  obtain ⟨front, pop⟩ := State.popFrame_eq next
  obtain ⟨o, hit, a, b⟩ := x
  simp only at body
  subst body
  rw [exec, execDigestFireAlarm, live_released _ _ _ h, hu, State.mayDigest_of_ready ready, front, ← pop]

theorem exec_digestFireReset (body : x.body = .fireReset) :
    exec (.digestFireReset dt) s = .next ((u.withFifos ra rb).takeReset x).finish := by
  obtain ⟨front, pop⟩ := State.popFrame_eq next
  obtain ⟨o, hit, a, b⟩ := x
  simp only at body
  subst body
  rw [exec, execDigestFireReset, live_released _ _ _ h, hu, State.mayDigest_of_ready ready, front, ← pop]

end digest

/-! ### What a frame becomes -/

theorem statusInRange_iff (cls : Byte) (demand : BitVec 16) (period : Byte) : statusInRange cls demand period = true ↔
    cls.toNat ≤ 5 ∧ demand.toNat ≤ 2000 ∧ 5 ≤ period.toNat ∧ period.toNat ≤ 50 := by
  simp only [statusInRange, inRange, Bool.and_eq_true, decide_eq_true_eq, and_assoc]
  rfl

/-- R9: the class field of a class. -/
theorem classOfNum_num (c : DemandClass) : classOfNum c.num = c := by cases c <;> rfl

theorem classOfNum_of_num {c : DemandClass} {n : Nat} (h : c.num = n) : classOfNum n = c := by rw [← h, classOfNum_num]

/-- R8: a frame is earlier than the entry of its origin. -/
theorem State.earlier_iff (s : State) (x : FifoEntry) (p : PeerEntry) :
    s.earlier x p = true ↔ (s.tu - p.last).toNat < (s.tu - x.arrival).toNat := decide_eq_true_iff

theorem State.notEarlier_of_mem {s : State} {x : FifoEntry} {p : PeerEntry} (h : s.NotEarlier x) (hp : p ∈ s.view.entries)
    (ho : p.origin = x.origin) : s.earlier x p = false := by
  rw [← Bool.not_eq_true, State.earlier_iff]
  exact Nat.not_lt.mpr (h p hp ho)

/-- R8, R9: an origin without an entry has no later one. -/
theorem State.found_of_earlier {s : State} {x : FifoEntry} (ordered : s.Ordered) (h : ¬ s.NotEarlier x) :
    ∃ p, lookupEntry x.origin s.view.entries = some p ∧ s.earlier x p = true := by
  simp only [State.NotEarlier, not_forall, not_le] at h
  obtain ⟨p, hp, ho, late⟩ := h
  exact ⟨p, lookupEntry_of_mem ordered.1 hp ho, (s.earlier_iff x p).mpr late⟩

theorem lookupEntry_of_absent {o : Station} {es : List PeerEntry} (h : ∀ e ∈ es, e.origin ≠ o) : lookupEntry o es = none := by
  cases hl : lookupEntry o es with
  | none => rfl
  | some p => exact absurd (lookupEntry_some hl).2 (h p (lookupEntry_some hl).1)

/-! R10 to R12: a frame by its range, its origin's entry and its age. -/

section take

variable {s : State} {x : FifoEntry} {p : PeerEntry} {cls : Byte} {demand : BitVec 16} {flags : PeerFlags} {period : Byte}

theorem State.takeStatus_outOfRange (h : ¬ statusInRange cls demand period = true) :
    s.takeStatus x cls demand flags period = s.countError := by rw [State.takeStatus, if_neg h]

theorem State.takeStatus_earlier (range : statusInRange cls demand period = true)
    (found : lookupEntry x.origin s.view.entries = some p) (early : s.earlier x p = true) :
    s.takeStatus x cls demand flags period = s := by
  unfold State.takeStatus
  rw [if_pos range, found]
  exact if_pos early

theorem State.takeStatus_found (range : statusInRange cls demand period = true)
    (found : lookupEntry x.origin s.view.entries = some p) (early : s.earlier x p = false) {n : PeerEntry}
    (hn : n = { statusEntry x cls demand flags period with hit := p.hit }) :
    s.takeStatus x cls demand flags period = (s.updateEntry p n).statusEvent n := by
  subst hn
  unfold State.takeStatus
  rw [if_pos range, found]
  exact if_neg (by simp [early])

theorem State.takeStatus_admitted (range : statusInRange cls demand period = true)
    (absent : lookupEntry x.origin s.view.entries = none) {n : PeerEntry} (hn : n = statusEntry x cls demand flags period)
    {es : List PeerEntry} (admits : admitNewcomer s.tu n s.view.entries = some es) :
    s.takeStatus x cls demand flags period = (s.setEntries es).requestPass.statusEvent n := by
  subst hn
  unfold State.takeStatus
  rw [if_pos range, absent]
  simp only [admits]

theorem State.takeStatus_refused (range : statusInRange cls demand period = true)
    (absent : lookupEntry x.origin s.view.entries = none)
    (refuses : admitNewcomer s.tu (statusEntry x cls demand flags period) s.view.entries = none) :
    s.takeStatus x cls demand flags period = s.refuseNewcomer := by
  unfold State.takeStatus
  rw [if_pos range, absent]
  simp only [refuses]

theorem State.takeAlarm_outOfRange (h : 2000 < demand.toNat) : s.takeAlarm x demand = s.countError := by
  rw [State.takeAlarm, if_neg (show ¬ demand.toNat ≤ Config.demandMax from Nat.not_le.mpr h)]

theorem State.takeAlarm_earlier (range : demand.toNat ≤ 2000) (found : lookupEntry x.origin s.view.entries = some p)
    (early : s.earlier x p = true) : s.takeAlarm x demand = s := by
  unfold State.takeAlarm
  rw [if_pos (show demand.toNat ≤ Config.demandMax from range), found]
  exact if_pos early

theorem State.takeAlarm_found (range : demand.toNat ≤ 2000) (found : lookupEntry x.origin s.view.entries = some p)
    (early : s.earlier x p = false) {n : PeerEntry}
    (hn : n = { p with cls := .fire, demand := demand.toNat, last := x.arrival, fresh := .fresh }) :
    s.takeAlarm x demand = (s.updateEntry p n).alarmEvent n := by
  subst hn
  unfold State.takeAlarm
  rw [if_pos (show demand.toNat ≤ Config.demandMax from range), found]
  exact if_neg (by simp [early])

theorem State.takeAlarm_admitted (range : demand.toNat ≤ 2000) (absent : lookupEntry x.origin s.view.entries = none)
    {n : PeerEntry} (hn : n = alarmEntry x demand s.cfg.period) {es : List PeerEntry}
    (admits : admitNewcomer s.tu n s.view.entries = some es) :
    s.takeAlarm x demand = (s.setEntries es).requestPass.alarmEvent n := by
  subst hn
  unfold State.takeAlarm
  rw [if_pos (show demand.toNat ≤ Config.demandMax from range), absent]
  simp only [admits]

theorem State.takeAlarm_refused (range : demand.toNat ≤ 2000) (absent : lookupEntry x.origin s.view.entries = none)
    (refuses : admitNewcomer s.tu (alarmEntry x demand s.cfg.period) s.view.entries = none) :
    s.takeAlarm x demand = s.refuseNewcomer := by
  unfold State.takeAlarm
  rw [if_pos (show demand.toNat ≤ Config.demandMax from range), absent]
  simp only [refuses]

theorem State.takeReset_earlier (found : lookupEntry x.origin s.view.entries = some p) (early : s.earlier x p = true) :
    s.takeReset x = s := by
  unfold State.takeReset
  rw [found]
  exact if_pos early

theorem State.takeReset_found (found : lookupEntry x.origin s.view.entries = some p) (early : s.earlier x p = false) :
    s.takeReset x = (s.updateEntry p { p with cls := .fume3, provisional := true, last := x.arrival
                                              fresh := .fresh }).neighbourGone x.origin := by
  unfold State.takeReset
  rw [found]
  exact if_neg (by simp [early])

theorem State.takeReset_absent (absent : lookupEntry x.origin s.view.entries = none) :
    s.takeReset x = s.neighbourGone x.origin := by
  unfold State.takeReset
  rw [absent]

end take

/-- Settles O23: a frame out of range is counted, and an earlier one leaves its FIFO alone. -/
theorem discardedFramesChangeNothing : Obligations.DiscardedFramesChangeNothing := by
  intro s u v dt c x ra rb h hu ready follow next hv
  have popped : u.withFifos ra rb = v := hv
  have ends : ∀ t : State, t.zone = v.zone ∧ t.view = v.view ∧ t.fans = v.fans ∧ t.dampers = v.dampers ∧ t.share = v.share ∧
      t.forces = v.forces ∧ t.monitor = v.monitor ∧ t.store = v.store → t.finish = t := by
    rintro t ⟨zone, view, fans, dampers, share, forces, monitor, store⟩
    subst hv
    refine State.finish_of_settled t (follow.congr dampers forces (by rw [zone]) (by rw [monitor]) (by rw [view]) store
      fun f => ?_) ⟨by rw [share]; exact ready.2.2.1.1, by rw [fans]; exact ready.2.2.1.2⟩
    rw [State.fan_congr fans]
    rfl
  have error : v.countError.finish = { v with rx := { v.rx with errors := min 65535 (v.rx.errors + 1) } } := by
    rw [ends v.countError ⟨rfl, rfl, rfl, rfl, rfl, rfl, rfl, rfl⟩, State.countError, bump_eq_min]
  have same : v.finish = v := ends v ⟨rfl, rfl, rfl, rfl, rfl, rfl, rfl, rfl⟩
  have early : ¬ u.NotEarlier x → ∃ p, lookupEntry x.origin v.view.entries = some p ∧ v.earlier x p = true := fun late => by
    obtain ⟨p, found, he⟩ := State.found_of_earlier ready.2.2.2 late
    subst hv
    exact ⟨p, found, he⟩
  refine ⟨fun cls demand flags period body hc => ⟨fun outside => ?_, fun hcls hd h5 h50 late => ?_⟩,
    fun demand body hc => ⟨fun outside => ?_, fun hd late => ?_⟩, fun body hc late => ?_⟩
  · have range : ¬ statusInRange cls demand period = true := by rw [statusInRange_iff]; omega
    rw [hc, exec_digestZoneStatus h hu ready next body, popped, State.takeStatus_outOfRange range, error]
  · obtain ⟨p, found, he⟩ := early late
    rw [hc, exec_digestZoneStatus h hu ready next body, popped,
      State.takeStatus_earlier ((statusInRange_iff _ _ _).mpr ⟨hcls, hd, h5, h50⟩) found he, same]
  · rw [hc, exec_digestFireAlarm h hu ready next body, popped, State.takeAlarm_outOfRange outside, error]
  · obtain ⟨p, found, he⟩ := early late
    rw [hc, exec_digestFireAlarm h hu ready next body, popped, State.takeAlarm_earlier hd found he, same]
  · obtain ⟨p, found, he⟩ := early late
    rw [hc, exec_digestFireReset h hu ready next body, popped, State.takeReset_earlier found he, same]

/-! ### The age sweep -/

/-- R14: an entry after a sweep, with its limits as numbers. -/
theorem sweepEntry_eq (now : Tu) (e : PeerEntry) : sweepEntry now e =
    if e.fresh = .lost then some e
    else if 16 * e.period * 1000 < (now - e.last).toNat then
      if e.hit = none then none else some { e with fresh := .lost }
    else if e.fresh = .fresh ∧ 4 * e.period * 1000 < (now - e.last).toNat then some { e with fresh := .stale }
    else some e := by
  have neighbour : (if e.isNeighbour = true then some { e with fresh := .lost } else none) =
      if e.hit = none then none else some { e with fresh := .lost } := by
    unfold PeerEntry.isNeighbour
    cases e.hit <;> rfl
  rw [sweepEntry, neighbour]
  rfl

/-- R16: a sweep that the view takes. -/
theorem State.sweepNow_eq (s : State) : s.sweepNow =
    if s.view.entries.filterMap (sweepEntry s.tu) = s.view.entries then s
    else (s.setEntries (s.view.entries.filterMap (sweepEntry s.tu))).requestPass := rfl

/-- R26: a pass that starts as its event ends. -/
theorem State.requestPass_serve {s : State} (idle : s.share.pass = none) (valid : s.recordValid = true)
    (requested : s.share.requested = false) :
    s.requestPass.serve = { s with share := { s.share with
      again := false
      pass := some { cls := s.share.cls, demand := s.share.demand, fmax := s.fmaxEff, isolated := s.line.isolated,
                     capacity := s.cfg.capacity, share := s.cfg.isolatedShare, started := s.tu } } } := by
  have starts := (State.serve_of_request s.requestPass rfl).1 idle valid
  rw [starts]
  simp only [requested]
  rfl

/-- Settles O20: `sweepNow` where the view is not frozen, and the pass that a change starts. -/
theorem sweepAgesTheView : Obligations.SweepAgesTheView := by
  intro s u dt es h hu step valid requested hes
  have start : exec (.sweep dt) s = .next (if u.frozen then { u with view := { u.view with pendingSweep := true } }
      else u.sweepNow.serve) := by
    have guard : (u.atStep && u.recordValid) = true := by rw [u.atStep_iff.mpr step, valid]; rfl
    rw [exec, execSweep, live_released _ _ _ h, hu, if_pos guard]
  have aged : u.view.entries.filterMap (sweepEntry u.tu) = es := by
    rw [← hes]
    exact congrArg (fun f => u.view.entries.filterMap f) (funext fun e => sweepEntry_eq u.tu e)
  refine ⟨fun pass => ?_, fun idle same => ?_, fun idle moved => ?_⟩
  · rw [start, if_pos (by simpa [State.frozen, Option.isSome_iff_ne_none] using pass)]
  · rw [start, if_neg (by simp [State.frozen, idle]), State.sweepNow_eq, aged, if_pos same, State.serve_of_none u requested]
  · rw [start, if_neg (by simp [State.frozen, idle]), State.sweepNow_eq, aged, if_neg moved,
      State.requestPass_serve (s := u.setEntries es) idle valid requested]
    rfl

end Sys2Proof.Machine
end

section
/-! Frames digested: the entries they leave, the pass that a change starts and the containment they begin or end
(R10 to R12, R16, R17, R77 to R79). -/

namespace Sys2Proof.Machine

/-! ### Requests of the demand stage -/

/-- R16, R24: an operation that requests a pass when it moves the own class or demand, and leaves the pass in flight. -/
def State.AsksOnChange (s t : State) : Prop :=
  t.share.pass = s.share.pass ∧
  (t.share.requested = true ↔ s.share.requested = true ∨ ¬ (t.share.cls = s.share.cls ∧ t.share.demand = s.share.demand))

theorem State.AsksOnChange.of_share {s t : State} (h : t.share = s.share) : s.AsksOnChange t := by
  simp [State.AsksOnChange, h]

theorem State.AsksOnChange.congr {s s' t t' : State} (h : s.AsksOnChange t) (hs : s'.share = s.share) (ht : t'.share = t.share) :
    s'.AsksOnChange t' := by rw [State.AsksOnChange, hs, ht]; exact h

theorem State.AsksOnChange.recompute (s : State) : s.AsksOnChange s.recompute := by
  unfold State.recompute
  split
  · exact .of_share rfl
  · rename_i moved
    refine ⟨by simp [State.requestPass], ?_⟩
    simp only [State.notice_frame]
    exact ⟨fun _ => .inr moved, fun _ => rfl⟩

theorem State.AsksOnChange.enterMode (s : State) (m : Mode) : s.AsksOnChange (s.enterMode m) := by
  refine (State.AsksOnChange.recompute (s.setModeTimed m)).congr (by simp) ?_
  rw [State.enterMode_eq]
  split <;> simp

/-! ### The contain list -/

/-- The contain list replaced. -/
def State.setContain (s : State) (l : List Station) : State := { s with zone := { s.zone with contain := l } }

/-- R79: the modes that the first fire of a neighbour takes to CONTAIN. -/
def Mode.yields (m : Mode) : Prop := m = .listen ∨ m = .normal ∨ m = .purge

/-- R77: a fire of a neighbour that is contained already, or in HOLD, changes nothing. -/
theorem State.neighbourFire_held {s : State} {o : Station} (h : s.zone.mode = .hold ∨ o ∈ s.zone.contain) :
    s.neighbourFire o = s := if_pos h

/-- R79: the first fire of a neighbour. -/
theorem State.neighbourFire_first {s : State} {o : Station} (none : s.zone.contain = []) (mode : s.zone.mode.yields) :
    s.neighbourFire o = (s.setContain [o]).enterMode .contain := by
  unfold State.neighbourFire
  rw [if_neg (by rw [none]; rcases mode with hm | hm | hm <;> simp [hm]), if_pos none]
  rcases mode with hm | hm | hm <;> rw [hm, none] <;> rfl

/-- R77: another fire of a neighbour joins the list. -/
theorem State.neighbourFire_joins {s : State} {o : Station} (hold : s.zone.mode ≠ .hold) (new : o ∉ s.zone.contain)
    (stays : s.zone.contain ≠ [] ∨ ¬ s.zone.mode.yields) :
    s.neighbourFire o = s.setContain (insertStation o s.zone.contain) := by
  unfold State.neighbourFire
  rw [if_neg (by tauto)]
  by_cases none : s.zone.contain = []
  · have mode : ¬ s.zone.mode.yields := stays.resolve_left (not_not.mpr none)
    rw [if_pos none]
    unfold Mode.yields at mode
    cases hm : s.zone.mode with
    | listen | normal | purge | hold => simp_all
    | contain | fire => rfl
  · exact if_neg none

theorem State.neighbourGone_absent {s : State} {o : Station} (h : o ∉ s.zone.contain) : s.neighbourGone o = s := if_neg h

/-- R79: the last fire of a neighbour ends. -/
theorem State.neighbourGone_last {s : State} {o : Station} (h : o ∈ s.zone.contain)
    (last : s.zone.contain.filter (· ≠ o) = []) (mode : s.zone.mode = .contain) :
    s.neighbourGone o = (s.setContain []).enterMode .normal := by
  rw [State.neighbourGone, if_pos h]
  rw [if_pos ⟨last, mode⟩, last]
  rfl

theorem State.neighbourGone_leaves {s : State} {o : Station} (h : o ∈ s.zone.contain)
    (stays : s.zone.contain.filter (· ≠ o) ≠ [] ∨ s.zone.mode ≠ .contain) :
    s.neighbourGone o = s.setContain (s.zone.contain.filter (· ≠ o)) := by
  rw [State.neighbourGone, if_pos h]
  exact if_neg fun ⟨last, mode⟩ => stays.elim (· last) (· mode)

theorem State.AsksOnChange.neighbourFire (s : State) (o : Station) : s.AsksOnChange (s.neighbourFire o) := by
  by_cases held : s.zone.mode = .hold ∨ o ∈ s.zone.contain
  · rw [State.neighbourFire_held held]; exact .of_share rfl
  simp only [not_or] at held
  by_cases first : s.zone.contain = [] ∧ s.zone.mode.yields
  · rw [State.neighbourFire_first first.1 first.2]
    exact (State.AsksOnChange.enterMode (s.setContain [o]) .contain).congr rfl rfl
  · rw [State.neighbourFire_joins held.1 held.2 (by tauto)]
    exact .of_share rfl

theorem State.AsksOnChange.neighbourGone (s : State) (o : Station) : s.AsksOnChange (s.neighbourGone o) := by
  by_cases h : o ∈ s.zone.contain
  · by_cases last : s.zone.contain.filter (· ≠ o) = [] ∧ s.zone.mode = .contain
    · rw [State.neighbourGone_last h last.1 last.2]
      exact (State.AsksOnChange.enterMode (s.setContain []) .normal).congr rfl rfl
    · rw [State.neighbourGone_leaves h (by tauto)]
      exact .of_share rfl
  · rw [State.neighbourGone_absent h]; exact .of_share rfl

theorem State.AsksOnChange.statusEvent (s : State) (n : PeerEntry) : s.AsksOnChange (s.statusEvent n) := by
  unfold State.statusEvent
  split
  · split
    · exact .neighbourFire s _
    · exact .neighbourGone s _
  · exact .of_share rfl

/-- R17: what the neighbour event of a ZONE_STATUS leaves alone. -/
@[simp] theorem State.statusEvent_frame (s : State) (n : PeerEntry) : (s.statusEvent n).tu = s.tu ∧
    (s.statusEvent n).pins = s.pins ∧ (s.statusEvent n).store = s.store ∧ (s.statusEvent n).view = s.view ∧
    (s.statusEvent n).fume = s.fume ∧ (s.statusEvent n).monitor = s.monitor ∧ (s.statusEvent n).line = s.line ∧
    (s.statusEvent n).rx = s.rx ∧ (s.statusEvent n).port = s.port := by
  unfold State.statusEvent
  (repeat' split) <;> simp

@[simp] theorem State.alarmEvent_frame (s : State) (n : PeerEntry) : (s.alarmEvent n).tu = s.tu ∧
    (s.alarmEvent n).pins = s.pins ∧ (s.alarmEvent n).store = s.store ∧ (s.alarmEvent n).view = s.view ∧
    (s.alarmEvent n).fume = s.fume ∧ (s.alarmEvent n).monitor = s.monitor ∧ (s.alarmEvent n).line = s.line ∧
    (s.alarmEvent n).rx = s.rx ∧ (s.alarmEvent n).port = s.port := by
  unfold State.alarmEvent
  split <;> simp

theorem State.AsksOnChange.alarmEvent (s : State) (n : PeerEntry) : s.AsksOnChange (s.alarmEvent n) := by
  unfold State.alarmEvent
  split
  · exact .neighbourFire s _
  · exact .of_share rfl

/-! ### The entries -/

@[simp] theorem State.updateEntry_frame (s : State) (old n : PeerEntry) : (s.updateEntry old n).tu = s.tu ∧
    (s.updateEntry old n).pins = s.pins ∧ (s.updateEntry old n).store = s.store ∧ (s.updateEntry old n).fume = s.fume ∧
    (s.updateEntry old n).monitor = s.monitor ∧ (s.updateEntry old n).line = s.line ∧ (s.updateEntry old n).rx = s.rx ∧
    (s.updateEntry old n).port = s.port ∧ (s.updateEntry old n).zone = s.zone ∧ (s.updateEntry old n).forces = s.forces ∧
    (s.updateEntry old n).fans = s.fans ∧ (s.updateEntry old n).tx = s.tx ∧
    (s.updateEntry old n).view = { s.view with entries := replaceEntry n s.view.entries } := by
  unfold State.updateEntry
  split <;> exact ⟨rfl, rfl, rfl, rfl, rfl, rfl, rfl, rfl, rfl, rfl, rfl, rfl, rfl⟩

/-- R16: a change of an entry's class, demand or freshness requests a pass, and writes no more of the Share Computer. -/
theorem State.updateEntry_share (s : State) (old n : PeerEntry) : (s.updateEntry old n).share.pass = s.share.pass ∧
    (s.updateEntry old n).share.cls = s.share.cls ∧ (s.updateEntry old n).share.demand = s.share.demand ∧
    ((s.updateEntry old n).share.requested = true ↔ n.changedFrom old = true ∨ s.share.requested = true) := by
  unfold State.updateEntry
  split
  · rename_i h
    exact ⟨rfl, rfl, rfl, fun _ => .inl h, fun _ => rfl⟩
  · rename_i h
    exact ⟨rfl, rfl, rfl, .inr, fun k => k.resolve_left h⟩

theorem PeerEntry.changedFrom_iff (n old : PeerEntry) :
    n.changedFrom old = true ↔ n.cls ≠ old.cls ∨ n.demand ≠ old.demand ∨ n.fresh ≠ old.fresh := by
  simp [PeerEntry.changedFrom, or_assoc]

/-- R26: as an event ends that found the Share Computer IDLE with a valid record, a pass starts where one was requested. -/
theorem State.finish_pass {s : State} (idle : s.share.pass = none) (valid : s.recordValid = true) :
    s.finish.share.pass ≠ none ↔ s.share.requested = true := by
  have same : s.driveDampers.placeClaims.share = s.share := by simp
  have good : s.driveDampers.placeClaims.recordValid = true := by
    rw [← valid]; simp [State.recordValid]
  rw [State.finish]
  by_cases h : s.share.requested = true
  · rw [(State.serve_of_request _ (by rw [same, h])).1 (by rw [same, idle]) good]
    simp [State.startPass, h]
  · rw [State.serve_of_none _ (by rw [same]; simpa using h), same, idle]
    simp [h]

end Sys2Proof.Machine
end

section
/-! A ZONE_STATUS, a FIRE_ALARM and a FIRE_RESET digested (R10 to R12), and the eviction from a full view (R5). -/

namespace Sys2Proof.Machine

/-- R10: a ZONE_STATUS in range writes no more of the state than its entry, the requests and the containment. -/
theorem State.takeStatus_frame {s : State} {x : FifoEntry} {cls : Byte} {demand : BitVec 16} {flags : PeerFlags} {period : Byte}
    (range : statusInRange cls demand period = true) {t : State} (ht : s.takeStatus x cls demand flags period = t) :
    t.tu = s.tu ∧ t.pins = s.pins ∧ t.store = s.store ∧ t.fume = s.fume ∧ t.monitor = s.monitor ∧ t.line = s.line ∧
    t.rx = s.rx ∧ t.port = s.port := by
  subst ht
  cases hl : lookupEntry x.origin s.view.entries with
  | some p =>
    cases early : s.earlier x p with
    | true => simp [State.takeStatus_earlier range hl early]
    | false => simp [State.takeStatus_found range hl early rfl]
  | none =>
    cases ha : admitNewcomer s.tu (statusEntry x cls demand flags period) s.view.entries with
    | some es => simp [State.takeStatus_admitted range hl rfl ha, State.setEntries, State.requestPass]
    | none => simp [State.takeStatus_refused range hl ha, State.refuseNewcomer]

theorem State.takeAlarm_frame {s : State} {x : FifoEntry} {demand : BitVec 16} (range : demand.toNat ≤ 2000) {t : State}
    (ht : s.takeAlarm x demand = t) :
    t.tu = s.tu ∧ t.pins = s.pins ∧ t.store = s.store ∧ t.fume = s.fume ∧ t.monitor = s.monitor ∧ t.line = s.line ∧
    t.rx = s.rx ∧ t.port = s.port := by
  subst ht
  cases hl : lookupEntry x.origin s.view.entries with
  | some p =>
    cases early : s.earlier x p with
    | true => simp [State.takeAlarm_earlier range hl early]
    | false => simp [State.takeAlarm_found range hl early rfl]
  | none =>
    cases ha : admitNewcomer s.tu (alarmEntry x demand s.cfg.period) s.view.entries with
    | some es => simp [State.takeAlarm_admitted range hl rfl ha, State.setEntries, State.requestPass]
    | none => simp [State.takeAlarm_refused range hl ha, State.refuseNewcomer]

theorem admitNewcomer_of_room {now : Tu} {n : PeerEntry} {es : List PeerEntry} (h : es.length < 24) :
    admitNewcomer now n es = some (placeEntry n es) := if_pos h

/-- Settles O21: an entry found or placed, and the pass that a change starts. -/
theorem statusUpdatesItsEntry : Obligations.StatusUpdatesItsEntry := by
  intro s u dt ra rb o h a cls period demand flags released hu ready next late hcls hd h5 h50
  obtain ⟨x, hx⟩ : ∃ x : FifoEntry, x = ⟨o, h, a, .zoneStatus cls demand flags period⟩ := ⟨_, rfl⟩
  rw [← hx] at next late
  obtain ⟨v, hv⟩ : ∃ v, v = u.withFifos ra rb := ⟨_, rfl⟩
  have range : statusInRange cls demand period = true := (statusInRange_iff _ _ _).mpr ⟨hcls, hd, h5, h50⟩
  have start := exec_digestZoneStatus released hu ready next (by rw [hx])
  rw [← hv] at start
  obtain ⟨valid, idle, served, ordered⟩ := ready
  have same : v.view = u.view ∧ v.share = u.share ∧ v.tu = u.tu ∧ v.recordValid = true := by
    rw [hv]; exact ⟨rfl, rfl, rfl, valid⟩
  obtain ⟨view, share, tu, good⟩ := same
  obtain ⟨w, hw⟩ : ∃ w, v.takeStatus x cls demand flags period = w := ⟨_, rfl⟩
  obtain ⟨wtu, wpins, wstore, wfume, wmonitor, wline, wrx, wport⟩ := State.takeStatus_frame range hw
  have pass : ∀ y : State, y.share.pass = none → y.store = v.store → (y.finish.share.pass ≠ none ↔ y.share.requested = true) :=
    fun y hy hs => State.finish_pass hy (by rw [← good, State.recordValid, State.recordValid, hs])
  rw [hw] at start
  refine ⟨_, start, fun p n hp ho hn hne => ?_, fun n none room hn hne => ?_, by simp [wrx, hv, State.withFifos],
    by simp [wtu, tu], by simp [wpins, hv, State.withFifos], by simp [wstore, hv, State.withFifos],
    by simp [wfume, hv, State.withFifos], by simp [wmonitor, hv, State.withFifos], by simp [wline, hv, State.withFifos],
    by simp [wport, hv, State.withFifos]⟩
  · have found : lookupEntry x.origin v.view.entries = some p := by
      rw [view, hx]; exact lookupEntry_of_mem ordered.1 hp ho
    have early : v.earlier x p = false := by
      have := State.notEarlier_of_mem late hp (by rw [hx]; exact ho)
      rw [← this, State.earlier, State.earlier, tu]
    have entry : n = { statusEntry x cls demand flags period with hit := p.hit } := by
      rw [hne, hx, statusEntry, classOfNum_of_num hn]
    rw [State.takeStatus_found range found early entry] at hw
    have origin : n.origin = o := by rw [hne]
    obtain ⟨upass, ucls, udemand, urequested⟩ := v.updateEntry_share p n
    obtain ⟨apass, asks⟩ := State.AsksOnChange.statusEvent (v.updateEntry p n) n
    rw [hw] at apass asks
    have fresh : n.fresh = .fresh := by rw [hne]
    refine ⟨?_, ?_⟩
    · have wview : w.view = (v.updateEntry p n).view := by rw [← hw]; simp
      simp [wview, view, replaceEntry, origin]
    · rw [pass w (by rw [apass, upass, share, idle]) wstore, asks, urequested, ucls, udemand, share, served.1,
        PeerEntry.changedFrom_iff, fresh]
      simp only [State.finish_share, Bool.false_eq_true, or_false]
      rw [ne_comm (a := Freshness.fresh), or_assoc, or_assoc]
  · have absent : lookupEntry x.origin v.view.entries = Option.none := by
      rw [view, hx]; exact lookupEntry_of_absent none
    have entry : n = statusEntry x cls demand flags period := by
      rw [hne, hx, statusEntry, classOfNum_of_num hn]
    have admits : admitNewcomer v.tu n v.view.entries = some (placeEntry n u.view.entries) := by
      rw [view]; exact admitNewcomer_of_room room
    rw [State.takeStatus_admitted range absent entry admits] at hw
    have wview : w.view = { v.view with entries := placeEntry n u.view.entries } := by rw [← hw]; simp [State.setEntries, State.requestPass]
    obtain ⟨apass, asks⟩ := State.AsksOnChange.statusEvent (v.setEntries (placeEntry n u.view.entries)).requestPass n
    rw [hw] at apass asks
    refine ⟨fun e => ?_, ?_, by simp [wview, view], ?_⟩
    · simp [wview, mem_placeEntry]
    · simp [wview]
    · rw [pass w (by rw [apass]; exact (congrArg Share.pass share).trans idle) wstore]
      exact asks.mpr (.inl rfl)

/-- R1: in an ordered view an origin has one entry. -/
theorem replaceEntry_eq {es : List PeerEntry} {p : PeerEntry} (h : es.Pairwise fun a b => a.origin < b.origin) (hp : p ∈ es)
    {o : Station} (own : p.origin = o) (update : PeerEntry → PeerEntry) (origin : (update p).origin = p.origin) :
    replaceEntry (update p) es = es.map fun e => if e.origin = o then update e else e := by
  subst own
  refine List.map_congr_left fun e he => ?_
  rw [origin]
  by_cases ho : e.origin = p.origin
  · have same := (lookupEntry_of_mem h he ho).symm.trans (lookupEntry_of_mem h hp rfl)
    rw [if_pos ho, if_pos ho, Option.some.inj same]
  · rw [if_neg ho, if_neg ho]

/-- Settles O22: an entry found or placed. -/
theorem alarmMakesAFireEntry : Obligations.AlarmMakesAFireEntry := by
  intro s u dt ra rb o h a demand released hu ready next late hd
  obtain ⟨x, hx⟩ : ∃ x : FifoEntry, x = ⟨o, h, a, .fireAlarm demand⟩ := ⟨_, rfl⟩
  rw [← hx] at next late
  obtain ⟨v, hv⟩ : ∃ v, v = u.withFifos ra rb := ⟨_, rfl⟩
  have start := exec_digestFireAlarm released hu ready next (by rw [hx])
  rw [← hv] at start
  obtain ⟨valid, idle, served, ordered⟩ := ready
  have same : v.view = u.view ∧ v.share = u.share ∧ v.tu = u.tu ∧ v.recordValid = true ∧ v.cfg = u.cfg := by
    rw [hv]; exact ⟨rfl, rfl, rfl, valid, rfl⟩
  obtain ⟨view, share, tu, good, cfg⟩ := same
  obtain ⟨w, hw⟩ : ∃ w, v.takeAlarm x demand = w := ⟨_, rfl⟩
  obtain ⟨wtu, wpins, wstore, wfume, wmonitor, wline, wrx, wport⟩ := State.takeAlarm_frame hd hw
  rw [hw] at start
  refine ⟨_, start, fun ⟨p, hp, ho⟩ => ?_, fun none room => ?_, by simp [wrx, hv, State.withFifos],
    by simp [wtu, tu], by simp [wpins, hv, State.withFifos], by simp [wstore, hv, State.withFifos],
    by simp [wfume, hv, State.withFifos], by simp [wmonitor, hv, State.withFifos], by simp [wline, hv, State.withFifos],
    by simp [wport, hv, State.withFifos]⟩
  · have found : lookupEntry x.origin v.view.entries = some p := by
      rw [view, hx]; exact lookupEntry_of_mem ordered.1 hp ho
    have early : v.earlier x p = false := by
      have := State.notEarlier_of_mem late hp (by rw [hx]; exact ho)
      rw [← this, State.earlier, State.earlier, tu]
    rw [State.takeAlarm_found hd found early rfl] at hw
    have wview : w.view = { v.view with entries := u.view.entries.map fun e => if e.origin = o then
        { e with cls := .fire, demand := demand.toNat, last := x.arrival, fresh := .fresh } else e } := by
      have entries := replaceEntry_eq ordered.1 hp ho
        (fun e => { e with cls := .fire, demand := demand.toNat, last := x.arrival, fresh := .fresh }) rfl
      rw [← hw, ← entries]
      simp [view]
    simp [wview, view, hx]
  · have absent : lookupEntry x.origin v.view.entries = Option.none := by
      rw [view, hx]; exact lookupEntry_of_absent none
    have admits : admitNewcomer v.tu (alarmEntry x demand v.cfg.period) v.view.entries =
        some (placeEntry (alarmEntry x demand u.cfg.period) u.view.entries) := by
      rw [view, cfg]; exact admitNewcomer_of_room room
    rw [State.takeAlarm_admitted hd absent rfl admits, cfg] at hw
    obtain ⟨es, hes⟩ : ∃ es, es = placeEntry (alarmEntry x demand u.cfg.period) u.view.entries := ⟨_, rfl⟩
    rw [← hes] at hw
    have wview : w.view = { v.view with entries := es } := by rw [← hw]; simp [State.setEntries, State.requestPass]
    obtain ⟨apass, asks⟩ := State.AsksOnChange.alarmEvent (v.setEntries es).requestPass (alarmEntry x demand u.cfg.period)
    rw [hw] at apass asks
    refine ⟨fun e => ?_, ?_, by simp [wview, view], ?_⟩
    · simp only [State.finish_frame, wview, hes, mem_placeEntry]
      rw [or_comm, hx]
      rfl
    · simp [wview, hes]
    · have wgood : w.recordValid = true := by rw [← good, State.recordValid, State.recordValid, wstore]
      rw [State.finish_pass (by rw [apass]; exact (congrArg Share.pass share).trans idle) wgood]
      exact asks.mpr (.inl rfl)

end Sys2Proof.Machine
end

section
/-! The eviction from a full view (R5). -/

namespace Sys2Proof.Machine

theorem evictedBefore_iff (now : Tu) (a b : PeerEntry) : evictedBefore now a b = true ↔
    a.cls.num < b.cls.num ∨ a.cls = b.cls ∧ (now - b.last).toNat < (now - a.last).toNat := by
  simp only [evictedBefore, Bool.or_eq_true, Bool.and_eq_true, decide_eq_true_eq]
  rfl

/-- R5: of two entries one at most is evicted before the other. -/
theorem evictedBefore_asymm {now : Tu} {a b : PeerEntry} (h : evictedBefore now a b = true) : evictedBefore now b a = false := by
  rw [← Bool.not_eq_true, evictedBefore_iff]
  rcases (evictedBefore_iff now a b).mp h with hc | ⟨hc, ha⟩
  · rintro (hd | ⟨hd, -⟩)
    · omega
    · rw [hd] at hc; omega
  · rintro (hd | ⟨-, hb⟩)
    · rw [hc] at hd; omega
    · omega

/-- R5: the candidate is the entry that is evicted before every other that is no neighbour. -/
theorem evictee_eq {now : Tu} {v : PeerEntry} {es : List PeerEntry} (hv : v ∈ es) (other : v.isNeighbour = false)
    (lowest : ∀ e ∈ es, e ≠ v → e.isNeighbour = false → evictedBefore now v e = true) : evictee now es = some v := by
  induction es with
  | nil => cases hv
  | cons e es ih =>
    have rest : ∀ d ∈ es, d ≠ v → d.isNeighbour = false → evictedBefore now v d = true := fun d hd =>
      lowest d (List.mem_cons_of_mem _ hd)
    unfold evictee
    by_cases hve : v = e
    · subst hve
      rw [other]
      cases hc : evictee now es with
      | none => rfl
      | some c =>
        obtain ⟨hmem, hn⟩ := evictee_mem hc
        by_cases same : c = v
        · simp only [same, ite_self]
        · simp only [evictedBefore_asymm (rest c hmem same hn), Bool.false_eq_true, if_false]
    · have tail : evictee now es = some v := ih ((List.mem_cons.mp hv).resolve_left hve) rest
      rw [tail]
      cases hn : e.isNeighbour with
      | true => rfl
      | false => simp only [lowest e (List.mem_cons_self ..) (Ne.symm hve) hn, if_true]

/-- R1: what is left of an ordered view without one of its entries. -/
theorem filter_origin_ne {v : PeerEntry} {es : List PeerEntry} (h : es.Pairwise fun a b => a.origin < b.origin) (hv : v ∈ es) :
    (es.filter fun e => decide (e.origin ≠ v.origin)) = es.erase v := by
  have nodup : es.Nodup := h.imp fun hlt he => by rw [he] at hlt; exact absurd hlt (lt_irrefl _)
  rw [nodup.erase_eq_filter]
  refine List.filter_congr fun e he => ?_
  have same : e.origin = v.origin ↔ e = v := by
    refine ⟨fun ho => ?_, fun he => by rw [he]⟩
    exact Option.some.inj ((lookupEntry_of_mem h he ho).symm.trans (lookupEntry_of_mem h hv rfl))
  rw [Bool.eq_iff_iff, decide_eq_true_iff, ne_eq, same]
  simp

theorem PeerEntry.isNeighbour_iff (e : PeerEntry) : e.isNeighbour = true ↔ e.hit ≠ none := by
  rw [PeerEntry.isNeighbour, Option.isSome_iff_ne_none]

/-- R5: a newcomer to a full view. -/
theorem admitNewcomer_of_full {now : Tu} {n v : PeerEntry} {es : List PeerEntry} (full : es.length = 24)
    (candidate : evictee now es = some v) : admitNewcomer now n es =
      if n.hit ≠ none ∨ v.cls.num ≤ n.cls.num then
        some (placeEntry n (es.filter fun e => decide (e.origin ≠ v.origin)))
      else none := by
  unfold admitNewcomer
  rw [if_neg (show ¬ es.length < Config.viewCapacity by rw [full]; decide), candidate]
  exact if_congr (by rw [Bool.or_eq_true, decide_eq_true_iff, PeerEntry.isNeighbour_iff]) rfl rfl

theorem DemandClass.num_le (c : DemandClass) : c.num ≤ 5 := by cases c <;> decide

/-- Settles O26: the candidate of `evictee`, and the newcomer admitted or refused. -/
theorem fullViewEvictsTheLowest : Obligations.FullViewEvictsTheLowest := by
  intro s u dt ra rb c x n v released hu ready next kind origin hit last fresh provisional full absent hv hvn lowest
  obtain ⟨w, hw⟩ : ∃ w, w = u.withFifos ra rb := ⟨_, rfl⟩
  have same : w.view = u.view ∧ w.share = u.share ∧ w.tu = u.tu ∧ w.store = u.store ∧ w.cfg = u.cfg ∧ w.zone = u.zone := by
    rw [hw]; exact ⟨rfl, rfl, rfl, rfl, rfl, rfl⟩
  obtain ⟨view, share, tu, store, cfg, zone⟩ := same
  have rx : w.rx = { u.rx with fifoA := ra, fifoB := rb } := by rw [hw]; rfl
  have lookup : lookupEntry x.origin w.view.entries = none := by
    rw [view]; exact lookupEntry_of_absent absent
  have digest : (∀ es, admitNewcomer u.tu n u.view.entries = some es → ∃ t, exec c s = .next t.finish ∧
      (w.setEntries es).requestPass.AsksOnChange t ∧ t.view = { u.view with entries := es } ∧ t.rx = w.rx ∧ t.store = u.store) ∧
      (admitNewcomer u.tu n u.view.entries = none → exec c s = .next w.refuseNewcomer.finish) := by
    rcases kind with ⟨cls, demand, flags, period, rfl, body, hc, hd, h5, h50, ncls, nd, nf, np, na⟩ |
      ⟨demand, rfl, body, hd, ncls, nd, nf, np, na⟩
    · have entry : n = statusEntry x cls demand flags period := by
        obtain ⟨_, _, _, _, _, _, _, _, _, _⟩ := n
        simp only at origin hit last fresh provisional nd nf np na ncls
        subst origin hit last fresh provisional nd nf np na
        rw [statusEntry, classOfNum_of_num ncls]
      have range : statusInRange cls demand period = true := (statusInRange_iff _ _ _).mpr ⟨hc, hd, h5, h50⟩
      have start := exec_digestZoneStatus released hu ready next body
      rw [← hw] at start
      refine ⟨fun es admits => ⟨_, start, ?_, ?_, ?_, ?_⟩, fun refuses => ?_⟩
      · rw [State.takeStatus_admitted range lookup entry (by rw [tu, view]; exact admits)]
        exact .statusEvent _ n
      · rw [State.takeStatus_admitted range lookup entry (by rw [tu, view]; exact admits)]
        simp [State.setEntries, State.requestPass, view]
      · exact (State.takeStatus_frame range rfl).2.2.2.2.2.2.1
      · exact (State.takeStatus_frame range rfl).2.2.1.trans store
      · rw [start, State.takeStatus_refused range lookup (by rw [← entry, tu, view]; exact refuses)]
    · have entry : n = alarmEntry x demand w.cfg.period := by
        obtain ⟨_, _, _, _, _, _, _, _, _, _⟩ := n
        simp only at origin hit last fresh provisional nd nf np na ncls
        subst origin hit last fresh provisional nd nf np na ncls
        rw [alarmEntry, cfg]
        rfl
      have start := exec_digestFireAlarm released hu ready next body
      rw [← hw] at start
      refine ⟨fun es admits => ⟨_, start, ?_, ?_, ?_, ?_⟩, fun refuses => ?_⟩
      · rw [State.takeAlarm_admitted hd lookup entry (by rw [tu, view]; exact admits)]
        exact .alarmEvent _ n
      · rw [State.takeAlarm_admitted hd lookup entry (by rw [tu, view]; exact admits)]
        simp [State.setEntries, State.requestPass, view]
      · exact (State.takeAlarm_frame hd rfl).2.2.2.2.2.2.1
      · exact (State.takeAlarm_frame hd rfl).2.2.1.trans store
      · rw [start, State.takeAlarm_refused hd lookup (by rw [← entry, tu, view]; exact refuses)]
  obtain ⟨admitted, refused⟩ := digest
  obtain ⟨valid, idle, served, ordered⟩ := ready
  have candidate : evictee u.tu u.view.entries = some v :=
    evictee_eq hv (by rw [← Bool.not_eq_true, PeerEntry.isNeighbour_iff]; simp [hvn]) fun e he hne hn =>
      (evictedBefore_iff _ _ _).mpr (lowest e he hne (by
        rw [← Bool.not_eq_true, PeerEntry.isNeighbour_iff] at hn; simpa using hn))
  have outcome := admitNewcomer_of_full (n := n) full candidate
  simp only [hit] at outcome
  rw [filter_origin_ne ordered.1 hv] at outcome
  have new : n ≠ v := fun he => absent v hv (by rw [← he, origin])
  have alarm : c = .digestFireAlarm dt → v.cls.num ≤ n.cls.num := by
    intro hc
    rcases kind with ⟨_, _, _, _, rfl, _⟩ | ⟨_, _, _, _, ncls, _⟩
    · cases hc
    · rw [ncls]; exact v.cls.num_le
  by_cases admits : x.hit ≠ none ∨ v.cls.num ≤ n.cls.num
  · rw [if_pos admits] at outcome
    obtain ⟨t, start, ⟨apass, asks⟩, tview, trx, tstore⟩ := admitted _ outcome
    have nodup : u.view.entries.Nodup := ordered.1.imp fun hlt he => by rw [he] at hlt; exact absurd hlt (lt_irrefl _)
    have fview : t.finish.view = { u.view with entries := placeEntry n (u.view.entries.erase v) } := by
      simp [State.finish_frame, tview]
    have members : ∀ e, e ∈ t.finish.view.entries ↔ e = n ∨ e ∈ u.view.entries ∧ e ≠ v := fun e => by
      rw [fview]
      exact mem_placeEntry.trans (or_congr_right (by rw [nodup.mem_erase_iff, and_comm]))
    have frx : t.finish.rx = { u.rx with fifoA := ra, fifoB := rb } := by simp [State.finish_frame, trx, rx]
    refine ⟨t.finish, start, fun _ => ⟨members, ?_, by rw [fview], ?_⟩, fun _ => ?_, fun hn hlt => ?_, frx⟩
    · rw [fview]
      simp [List.length_erase_of_mem hv, full]
    · rw [State.finish_pass (by rw [apass]; exact (congrArg Share.pass share).trans idle)
        (by rw [← valid, State.recordValid, State.recordValid, tstore])]
      exact asks.mpr (.inl rfl)
    · rw [members]
      simp [Ne.symm new]
    · rcases admits with hx | hle
      · exact absurd hn hx
      · omega
  · rw [if_neg admits] at outcome
    have frx : w.refuseNewcomer.finish.rx = { u.rx with fifoA := ra, fifoB := rb } := by
      rw [← rx]
      simp [State.refuseNewcomer]
    refine ⟨w.refuseNewcomer.finish, refused outcome, fun h => absurd h admits, fun hc => absurd (.inr (alarm hc)) admits,
      fun _ _ => ⟨?_, ?_, ?_⟩, frx⟩
    · simp [State.refuseNewcomer, view, bump_eq_min]
    · simp [State.refuseNewcomer, zone]
    · rw [State.finish_share_of_none (s := w.refuseNewcomer) (show w.share.requested = false by rw [share]; exact served.1)]
      exact share

end Sys2Proof.Machine
end

section
/-! The fires of neighbours: how a digested frame begins and ends containment (R17, R77 to R79). -/

namespace Sys2Proof.Machine

/-! ### The containment events -/

@[simp] theorem State.neighbourFire_urgent (s : State) (o : Station) : (s.neighbourFire o).tx.urgent = s.tx.urgent := by
  unfold State.neighbourFire
  (repeat' split) <;> simp

@[simp] theorem State.neighbourGone_urgent (s : State) (o : Station) : (s.neighbourGone o).tx.urgent = s.tx.urgent := by
  by_cases on : o ∈ s.zone.contain
  · by_cases ends : s.zone.contain.filter (· ≠ o) = [] ∧ s.zone.mode = .contain
    · rw [State.neighbourGone_last on ends.1 ends.2, State.enterMode_urgent]
      rfl
    · rw [State.neighbourGone_leaves on (by tauto)]
      rfl
  · rw [State.neighbourGone_absent on]

/-- R77: outside HOLD a neighbour's fire is on the list. -/
theorem State.neighbourFire_contain {s : State} {o : Station} (hold : s.zone.mode ≠ .hold) (q : Station) :
    q ∈ (s.neighbourFire o).zone.contain ↔ q = o ∨ q ∈ s.zone.contain := by
  by_cases on : o ∈ s.zone.contain
  · rw [State.neighbourFire_held (.inr on)]
    exact ⟨.inr, fun h => h.elim (fun e => e ▸ on) id⟩
  by_cases begins : s.zone.contain = [] ∧ s.zone.mode.yields
  · rw [State.neighbourFire_first begins.1 begins.2]
    simp [State.setContain, begins.1]
  · rw [State.neighbourFire_joins hold on (by tauto)]
    exact mem_insertStation

/-- R79: a neighbour's fire keeps the mode where one is contained already, and in FIRE. -/
theorem State.neighbourFire_keeps {s : State} {o : Station} (h : s.zone.contain ≠ [] ∨ s.zone.mode = .fire) :
    (s.neighbourFire o).zone.mode = s.zone.mode ∧ (s.neighbourFire o).forces = s.forces := by
  by_cases held : s.zone.mode = .hold ∨ o ∈ s.zone.contain
  · rw [State.neighbourFire_held held]
    exact ⟨rfl, rfl⟩
  · simp only [not_or] at held
    rw [State.neighbourFire_joins held.1 held.2 (h.imp_right fun hm => by simp [Mode.yields, hm])]
    exact ⟨rfl, rfl⟩

/-- R71, R79: what the first fire of a neighbour makes of the zone. -/
theorem State.neighbourFire_begins {s : State} {o : Station} (empty : s.zone.contain = []) (mode : s.zone.mode.yields) :
    (s.neighbourFire o).zone = { mode := .contain, contain := [o], listen := none, purge := none } ∧
    (s.neighbourFire o).forces = Forces.clear ∧ (s.neighbourFire o).share.cls = .contain ∧
    (s.neighbourFire o).share.demand = s.fmaxEff * s.cfg.containLevel / 1000 := by
  rw [State.neighbourFire_first empty mode]
  obtain ⟨cls, demand⟩ := (s.setContain [o]).enterMode_share .contain
  exact ⟨by simp [State.setContain, State.listenTimerFor, State.purgeTimerFor], by simp [Mode.dropsForces], cls, demand⟩

/-- R78: the end of a neighbour's fire takes it off the list. -/
theorem State.neighbourGone_contain (s : State) (o : Station) :
    (s.neighbourGone o).zone.contain = s.zone.contain.filter (· ≠ o) := by
  by_cases on : o ∈ s.zone.contain
  · by_cases ends : s.zone.contain.filter (· ≠ o) = [] ∧ s.zone.mode = .contain
    · rw [State.neighbourGone_last on ends.1 ends.2, ends.1]
      simp [State.setContain]
    · rw [State.neighbourGone_leaves on (by tauto)]
      rfl
  · rw [State.neighbourGone_absent on, List.filter_eq_self.mpr]
    intro q hq
    exact decide_eq_true fun he => on (he ▸ hq)

/-- R78: the list of one neighbour alone empties. -/
theorem filter_ne_eq_nil_iff {o : Station} {l : List Station} : l.filter (· ≠ o) = [] ↔ ∀ q ∈ l, q = o := by
  simp [List.filter_eq_nil_iff]

/-- R79: the mode stays where the list does not empty, and outside CONTAIN. -/
theorem State.neighbourGone_keeps {s : State} {o : Station}
    (h : o ∉ s.zone.contain ∨ (∃ q ∈ s.zone.contain, q ≠ o) ∨ s.zone.mode ≠ .contain) :
    (s.neighbourGone o).zone.mode = s.zone.mode := by
  by_cases on : o ∈ s.zone.contain
  · rw [State.neighbourGone_leaves on ((h.resolve_left (not_not.mpr on)).imp_left fun ⟨q, hq, hne⟩ he =>
      hne (filter_ne_eq_nil_iff.mp he q hq))]
    rfl
  · rw [State.neighbourGone_absent on]

/-- R71, R79: what the end of the last fire of a neighbour makes of CONTAIN. -/
theorem State.neighbourGone_ends {s : State} {o : Station} (on : o ∈ s.zone.contain) (alone : ∀ q ∈ s.zone.contain, q = o)
    (mode : s.zone.mode = .contain) :
    (s.neighbourGone o).zone.mode = .normal ∧ (s.neighbourGone o).forces = s.forces ∧
    (s.neighbourGone o).share.cls = (if s.monitor.decl = .preAlarm then .fume3 else s.fume.cls.toDemand) ∧
    (s.neighbourGone o).share.demand = s.fmaxEff * s.cfg.normalLevel (s.neighbourGone o).share.cls / 1000 := by
  rw [State.neighbourGone_last on (filter_ne_eq_nil_iff.mpr alone) mode]
  obtain ⟨cls, demand⟩ := (s.setContain []).enterMode_share .normal
  rw [cls]
  exact ⟨by simp, by simp [Mode.dropsForces, State.setContain], rfl, demand⟩

/-! ### The events of a digested frame -/

/-- R10, R16: a write of the table and of the pass request. -/
def State.TableOnly (s t : State) : Prop :=
  t.zone = s.zone ∧ t.forces = s.forces ∧ t.fans = s.fans ∧ t.store = s.store ∧ t.fume = s.fume ∧ t.monitor = s.monitor ∧
  t.tx = s.tx ∧ t.line = s.line ∧ t.rx = s.rx ∧ t.port = s.port

theorem State.TableOnly.updateEntry (s : State) (old n : PeerEntry) : s.TableOnly (s.updateEntry old n) := by
  simp [State.TableOnly]

theorem State.TableOnly.setEntries (s : State) (es : List PeerEntry) : s.TableOnly (s.setEntries es).requestPass :=
  ⟨rfl, rfl, rfl, rfl, rfl, rfl, rfl, rfl, rfl, rfl⟩

/-- R2, R17: a frame's origin is a neighbour, by its entry or by the hit that a new entry takes. -/
def State.FromNeighbour (s : State) (x : FifoEntry) : Prop :=
  (∃ p ∈ s.view.entries, p.origin = x.origin ∧ p.hit ≠ none) ∨
  (∀ e ∈ s.view.entries, e.origin ≠ x.origin) ∧ s.view.entries.length < 24 ∧ x.hit ≠ none

/-- R9: class 5 is FIRE. -/
theorem classOfNum_eq_fire_iff {n : Nat} (h : n ≤ 5) : classOfNum n = .fire ↔ n = 5 := by
  interval_cases n <;> simp [classOfNum]

section events

variable {s : State} {x : FifoEntry} {cls : Byte} {demand : BitVec 16} {flags : PeerFlags} {period : Byte}

/-- R10, R17: the ZONE_STATUS of a neighbour. -/
theorem State.takeStatus_neighbour (ordered : s.Ordered) (late : s.NotEarlier x)
    (range : statusInRange cls demand period = true) (known : s.FromNeighbour x) :
    ∃ y, s.TableOnly y ∧ (cls.toNat = 5 → s.takeStatus x cls demand flags period = y.neighbourFire x.origin) ∧
      (cls.toNat ≠ 5 → s.takeStatus x cls demand flags period = y.neighbourGone x.origin) := by
  have le := ((statusInRange_iff _ _ _).mp range).1
  have event : ∀ (y : State) (n : PeerEntry), n.origin = x.origin → n.cls = classOfNum cls.toNat → n.hit ≠ none →
      (cls.toNat = 5 → y.statusEvent n = y.neighbourFire x.origin) ∧
      (cls.toNat ≠ 5 → y.statusEvent n = y.neighbourGone x.origin) := by
    intro y n origin hc hit
    unfold State.statusEvent
    rw [if_pos (n.isNeighbour_iff.mpr hit), hc, origin]
    exact ⟨fun h => if_pos ((classOfNum_eq_fire_iff le).mpr h), fun h => if_neg fun e => h ((classOfNum_eq_fire_iff le).mp e)⟩
  rcases known with ⟨p, hp, ho, hit⟩ | ⟨none, room, hit⟩
  · rw [State.takeStatus_found range (by rw [← ho]; exact lookupEntry_of_mem ordered.1 hp rfl)
      (State.notEarlier_of_mem late hp ho) rfl]
    exact ⟨_, .updateEntry s p _, event _ _ rfl rfl hit⟩
  · rw [State.takeStatus_admitted range (lookupEntry_of_absent none) rfl (admitNewcomer_of_room room)]
    exact ⟨_, .setEntries s _, event _ _ rfl rfl hit⟩

/-- R11, R17: the FIRE_ALARM of a neighbour. -/
theorem State.takeAlarm_neighbour (ordered : s.Ordered) (late : s.NotEarlier x) (range : demand.toNat ≤ 2000)
    (known : s.FromNeighbour x) : ∃ y, s.TableOnly y ∧ s.takeAlarm x demand = y.neighbourFire x.origin := by
  have event : ∀ (y : State) (n : PeerEntry), n.origin = x.origin → n.hit ≠ none → y.alarmEvent n = y.neighbourFire x.origin := by
    intro y n origin hit
    rw [State.alarmEvent, if_pos (n.isNeighbour_iff.mpr hit), origin]
  rcases known with ⟨p, hp, ho, hit⟩ | ⟨none, room, hit⟩
  · rw [State.takeAlarm_found range (by rw [← ho]; exact lookupEntry_of_mem ordered.1 hp rfl)
      (State.notEarlier_of_mem late hp ho) rfl]
    exact ⟨_, .updateEntry s p _, event _ _ ho hit⟩
  · rw [State.takeAlarm_admitted range (lookupEntry_of_absent none) rfl (admitNewcomer_of_room room)]
    exact ⟨_, .setEntries s _, event _ _ rfl hit⟩

/-- R12: the FIRE_RESET of a station: its entry, if it has one, and the end of its fire. -/
theorem State.takeReset_gone (ordered : s.Ordered) (late : s.NotEarlier x) :
    ∃ y, s.TableOnly y ∧ s.takeReset x = y.neighbourGone x.origin ∧
      y.view = { s.view with entries := s.view.entries.map fun e => if e.origin = x.origin then
        { e with cls := .fume3, provisional := true, last := x.arrival, fresh := .fresh } else e } := by
  by_cases found : ∃ p ∈ s.view.entries, p.origin = x.origin
  · obtain ⟨p, hp, ho⟩ := found
    rw [State.takeReset_found (by rw [← ho]; exact lookupEntry_of_mem ordered.1 hp rfl) (State.notEarlier_of_mem late hp ho)]
    refine ⟨_, .updateEntry s p _, rfl, ?_⟩
    rw [← replaceEntry_eq ordered.1 hp ho
      (fun e => { e with cls := .fume3, provisional := true, last := x.arrival, fresh := .fresh }) rfl]
    simp
  · have none : ∀ e ∈ s.view.entries, e.origin ≠ x.origin := fun e he ho => found ⟨e, he, ho⟩
    refine ⟨s, ⟨rfl, rfl, rfl, rfl, rfl, rfl, rfl, rfl, rfl, rfl⟩, State.takeReset_absent (lookupEntry_of_absent none), ?_⟩
    have same : (s.view.entries.map fun e => if e.origin = x.origin then
        { e with cls := .fume3, provisional := true, last := x.arrival, fresh := .fresh } else e) = s.view.entries :=
      (List.map_congr_left fun e he => if_neg (none e he)).trans (List.map_id _)
    rw [same]

/-- R17: the ZONE_STATUS of a station that is no neighbour leaves the zone alone. -/
theorem State.takeStatus_other (ordered : s.Ordered) (late : s.NotEarlier x) (range : statusInRange cls demand period = true)
    (other : (∃ p ∈ s.view.entries, p.origin = x.origin ∧ p.hit = none) ∨
      (∀ e ∈ s.view.entries, e.origin ≠ x.origin) ∧ x.hit = none) :
    (s.takeStatus x cls demand flags period).zone = s.zone ∧ (s.takeStatus x cls demand flags period).forces = s.forces := by
  have event : ∀ (y : State) (n : PeerEntry), n.hit = none → y.statusEvent n = y := fun y n hit =>
    if_neg (by rw [n.isNeighbour_iff]; simp [hit])
  rcases other with ⟨p, hp, ho, hit⟩ | ⟨none, hit⟩
  · obtain ⟨n, hn⟩ : ∃ n, n = { statusEntry x cls demand flags period with hit := p.hit } := ⟨_, rfl⟩
    rw [State.takeStatus_found range (by rw [← ho]; exact lookupEntry_of_mem ordered.1 hp rfl)
      (State.notEarlier_of_mem late hp ho) hn, event _ n (by rw [hn]; exact hit)]
    simp
  · cases ha : admitNewcomer s.tu (statusEntry x cls demand flags period) s.view.entries with
    | some es =>
      rw [State.takeStatus_admitted range (lookupEntry_of_absent none) rfl ha, event _ _ hit]
      exact ⟨rfl, rfl⟩
    | none =>
      rw [State.takeStatus_refused range (lookupEntry_of_absent none) ha]
      exact ⟨rfl, rfl⟩

end events

/-- Settles O24: the frame's event is `neighbourFire`, by the list and the mode. -/
theorem neighbourFireContains : Obligations.NeighbourFireContains := by
  intro s u dt c x ra rb released hu ready next late kind known
  obtain ⟨v, hv⟩ : ∃ v, v = u.withFifos ra rb := ⟨_, rfl⟩
  have ordered : v.Ordered := by rw [hv]; exact ready.2.2.2
  have vlate : v.NotEarlier x := by rw [hv]; exact late
  have vknown : v.FromNeighbour x := by rw [hv]; exact known
  obtain ⟨y, table, start⟩ : ∃ y, v.TableOnly y ∧ exec c s = .next (y.neighbourFire x.origin).finish := by
    rcases kind with ⟨demand, rfl, body, hd⟩ | ⟨demand, flags, period, rfl, body, hd, h5, h50⟩
    · obtain ⟨y, table, event⟩ := State.takeAlarm_neighbour ordered vlate hd vknown
      exact ⟨y, table, by rw [exec_digestFireAlarm released hu ready next body, ← hv, event]⟩
    · obtain ⟨y, table, fires, -⟩ := State.takeStatus_neighbour (cls := 5) (demand := demand) (flags := flags) (period := period)
        ordered vlate ((statusInRange_iff _ _ _).mpr ⟨by decide, hd, h5, h50⟩) vknown
      exact ⟨y, table, by rw [exec_digestZoneStatus released hu ready next body, ← hv, fires (by decide)]⟩
  obtain ⟨zone, forces, fans, store, fume, monitor, tx, line, rx, port⟩ := table
  have cfg : y.cfg = v.cfg := State.cfg_of_store store
  have fmax : y.fmaxEff = v.fmaxEff := State.fmaxEff_of_fans fans cfg
  have same : v.zone = u.zone ∧ v.forces = u.forces ∧ v.cfg = u.cfg ∧ v.fmaxEff = u.fmaxEff ∧ v.monitor = u.monitor ∧
      v.fume = u.fume ∧ v.tx = u.tx ∧ v.line = u.line ∧ v.store = u.store := by
    rw [hv]; exact ⟨rfl, rfl, rfl, rfl, rfl, rfl, rfl, rfl, rfl⟩
  obtain ⟨vzone, vforces, vcfg, vfmax, vmonitor, vfume, vtx, vline, vstore⟩ := same
  refine ⟨_, start, fun hold => ?_, fun hold q => ?_, fun empty mode => ?_, fun stays => ?_, by simp [monitor, vmonitor],
    by simp [fume, vfume], by simp [tx, vtx], by simp [line, vline], by simp [store, vstore]⟩
  · rw [State.neighbourFire_held (.inl (by rw [zone, vzone, hold]))]
    simp [zone, vzone, forces, vforces]
  · simp only [State.finish_frame]
    rw [State.neighbourFire_contain (by rw [zone, vzone]; exact hold), zone, vzone]
  · obtain ⟨bzone, bforces, bcls, bdemand⟩ := State.neighbourFire_begins (s := y) (o := x.origin)
      (by rw [zone, vzone, empty]) (by rw [zone, vzone]; exact mode)
    refine ⟨by simp [bzone], by simp [bforces], by simp [bcls], by simp [bdemand, fmax, cfg, vfmax, vcfg], fun k => ?_⟩
    rw [State.finish_command]
    exact State.effectiveCommand_td_of_closed (by rw [State.transferOpen, bzone]) (by rw [bforces, Forces.clear_flag])
  · obtain ⟨kmode, kforces⟩ := State.neighbourFire_keeps (s := y) (o := x.origin) (by rw [zone, vzone]; exact stays)
    simp [kmode, kforces, zone, vzone, forces, vforces]

/-- Settles O25: the frame's event is `neighbourGone`, by the list and the mode. -/
theorem fireResetEndsContainment : Obligations.FireResetEndsContainment := by
  intro s u dt c x ra rb status neighbour released hu ready next late hstatus hneighbour
  obtain ⟨v, hv⟩ : ∃ v, v = u.withFifos ra rb := ⟨_, rfl⟩
  have ordered : v.Ordered := by rw [hv]; exact ready.2.2.2
  have vlate : v.NotEarlier x := by rw [hv]; exact late
  have same : v.zone = u.zone ∧ v.forces = u.forces ∧ v.cfg = u.cfg ∧ v.fmaxEff = u.fmaxEff ∧ v.monitor = u.monitor ∧
      v.fume = u.fume ∧ v.tx = u.tx ∧ v.line = u.line ∧ v.store = u.store ∧ v.port = u.port ∧ v.view = u.view ∧
      v.rx = { u.rx with fifoA := ra, fifoB := rb } := by
    rw [hv]; exact ⟨rfl, rfl, rfl, rfl, rfl, rfl, rfl, rfl, rfl, rfl, rfl, rfl⟩
  obtain ⟨vzone, vforces, vcfg, vfmax, vmonitor, vfume, vtx, vline, vstore, vport, vview, vrx⟩ := same
  refine ⟨fun ends => ?_, fun hs other => ?_⟩
  · obtain ⟨y, table, start, view⟩ : ∃ y, v.TableOnly y ∧ exec c s = .next (y.neighbourGone x.origin).finish ∧
        (x.body = .fireReset → y.view = { v.view with entries := v.view.entries.map fun e => if e.origin = x.origin then
          { e with cls := .fume3, provisional := true, last := x.arrival, fresh := .fresh } else e }) := by
      rcases ends with ⟨rfl, body⟩ | ⟨hs, hn⟩
      · obtain ⟨y, table, event, view⟩ := State.takeReset_gone ordered vlate
        exact ⟨y, table, by rw [exec_digestFireReset released hu ready next body, ← hv, event], fun _ => view⟩
      · obtain ⟨cls, demand, flags, period, rfl, body, hc, hd, h5, h50⟩ := hstatus.mp hs
        have known : v.FromNeighbour x := by rw [hv]; exact hneighbour.mp hn
        obtain ⟨y, table, -, gone⟩ := State.takeStatus_neighbour (flags := flags) ordered vlate
          ((statusInRange_iff _ _ _).mpr ⟨hc.trans (by decide), hd, h5, h50⟩) known
        refine ⟨y, table, ?_, fun reset => by rw [body] at reset; cases reset⟩
        rw [exec_digestZoneStatus released hu ready next body, ← hv, gone (by omega)]
    obtain ⟨zone, forces, fans, store, fume, monitor, tx, line, rx, port⟩ := table
    have cfg : y.cfg = v.cfg := State.cfg_of_store store
    have fmax : y.fmaxEff = v.fmaxEff := State.fmaxEff_of_fans fans cfg
    refine ⟨_, start, ?_, fun on alone mode => ?_, fun keeps => ?_, fun reset => by simp [view reset, vview],
      by simp [rx, vrx], by simp [monitor, vmonitor], by simp [fume, vfume], by simp [tx, vtx], by simp [line, vline],
      by simp [store, vstore], by simp [port, vport]⟩
    · simp only [State.finish_frame]
      rw [State.neighbourGone_contain, zone, vzone]
    · obtain ⟨emode, eforces, ecls, edemand⟩ := State.neighbourGone_ends (s := y) (o := x.origin)
        (by rw [zone, vzone]; exact on) (by rw [zone, vzone]; exact alone) (by rw [zone, vzone]; exact mode)
      rw [fmax, vfmax, cfg, vcfg] at edemand
      rw [monitor, vmonitor, fume, vfume] at ecls
      rw [forces, vforces] at eforces
      simp only [State.finish_frame, State.finish_share]
      exact ⟨emode, eforces, ecls, edemand⟩
    · simp only [State.finish_frame]
      rw [State.neighbourGone_keeps (by rw [zone, vzone]; exact keeps), zone, vzone]
  · obtain ⟨cls, demand, flags, period, rfl, body, hc, hd, h5, h50⟩ := hstatus.mp hs
    have range := (statusInRange_iff cls demand period).mpr ⟨hc.trans (by decide), hd, h5, h50⟩
    obtain ⟨ozone, oforces⟩ := State.takeStatus_other (flags := flags) ordered vlate range (by rw [vview]; exact other)
    have start := exec_digestZoneStatus released hu ready next body
    rw [← hv] at start
    refine ⟨_, start, by simp [ozone, vzone], by simp [oforces, vforces], ?_⟩
    simp [(State.takeStatus_frame range rfl).2.2.2.2.1, vmonitor]

end Sys2Proof.Machine
end

section
/-! The Fume Monitor: what a sample event makes of the channels and the zone index (R37 to R45). -/

namespace Sys2Proof.Machine

theorem goodReading_iff (r : Nat) : goodReading r = true ↔ 180 ≤ r ∧ r ≤ 1010 := by
  simp [goodReading]

theorem FumeChannel.take_good (c : FumeChannel) {r : Nat} (gain fallback : Nat) (h : 180 ≤ r ∧ r ≤ 1010) :
    c.take r gain fallback = c.takeGood (rawIndex r) gain := if_pos ((goodReading_iff r).mpr h)

theorem FumeChannel.take_faulty (c : FumeChannel) {r : Nat} (gain fallback : Nat) (h : r < 180 ∨ 1010 < r) :
    c.take r gain fallback = c.takeFaulty fallback := if_neg (by rw [goodReading_iff]; omega)

/-! R42, R43: a faulty reading, by the channel's health. -/

section faulty

variable {c : FumeChannel} (fallback : Nat)

theorem FumeChannel.takeFaulty_history : (c.takeFaulty fallback).history = c.history := by
  unfold FumeChannel.takeFaulty
  (repeat' split) <;> rfl

theorem FumeChannel.takeFaulty_healthy (h : c.health = .healthy) :
    c.takeFaulty fallback = { c with health := .holding, holdCount := 1 } := by
  rw [FumeChannel.takeFaulty, h]

theorem FumeChannel.takeFaulty_holding (h : c.health = .holding) : c.takeFaulty fallback =
    if c.holdCount < 4 then { c with holdCount := c.holdCount + 1 }
    else { c with health := .faulted, contribution := fallback } := by
  rw [FumeChannel.takeFaulty, h]

theorem FumeChannel.takeFaulty_faulted (h : c.health = .faulted) :
    c.takeFaulty fallback = { c with contribution := fallback } := by
  rw [FumeChannel.takeFaulty, h]

end faulty

theorem Record.sampleChannels_get (r : Record) (q : Quad FumeChannel) (x : Quad Reading) (c : Ix4) :
    (r.sampleChannels q x).get c = r.sampleChannel q x c := by cases c <;> rfl

/-- R45: the greatest value of the marked members of a list, from a start value. -/
theorem foldl_max_marked {α : Type} (on : α → Bool) (value : α → Nat) (l : List α) (m : Nat) :
    m ≤ l.foldl (fun m c => if on c then max m (value c) else m) m ∧
    (∀ c ∈ l, on c = true → value c ≤ l.foldl (fun m c => if on c then max m (value c) else m) m) ∧
    (l.foldl (fun m c => if on c then max m (value c) else m) m = m ∨
      ∃ c ∈ l, on c = true ∧ value c = l.foldl (fun m c => if on c then max m (value c) else m) m) := by
  induction l generalizing m with
  | nil => exact ⟨le_rfl, by simp, .inl rfl⟩
  | cons a l ih =>
    obtain ⟨le, bound, attained⟩ := ih (if on a then max m (value a) else m)
    rw [List.foldl_cons]
    cases ha : on a with
    | false =>
      simp only [ha, Bool.false_eq_true, if_false] at le bound attained ⊢
      refine ⟨le, fun c hc hon => ?_, attained.imp_right fun ⟨c, hc, h⟩ => ⟨c, List.mem_cons_of_mem _ hc, h⟩⟩
      rcases List.mem_cons.mp hc with rfl | hc
      · rw [ha] at hon; cases hon
      · exact bound c hc hon
    | true =>
      simp only [ha, if_true] at le bound attained ⊢
      refine ⟨(le_max_left _ _).trans le, fun c hc hon => ?_, ?_⟩
      · rcases List.mem_cons.mp hc with rfl | hc
        · exact (le_max_right _ _).trans le
        · exact bound c hc hon
      · rcases attained with same | ⟨c, hc, h⟩
        · rcases le_total (value a) m with hle | hle
          · exact .inl (same.trans (max_eq_left hle))
          · exact .inr ⟨a, List.mem_cons_self .., ha, (same.trans (max_eq_right hle)).symm⟩
        · exact .inr ⟨c, List.mem_cons_of_mem _ hc, h⟩

/-- R45: F is the greatest contribution of the enabled channels. -/
theorem Record.zoneIndex_spec (r : Record) (q : Quad FumeChannel) :
    (∀ c, r.enables.get c = true → (q.get c).contribution ≤ r.zoneIndex q) ∧
    (r.zoneIndex q = 0 ∨ ∃ c, r.enables.get c = true ∧ (q.get c).contribution = r.zoneIndex q) := by
  obtain ⟨-, bound, attained⟩ := foldl_max_marked (fun c => r.enables.get c) (fun c => (q.get c).contribution) Ix4.all 0
  exact ⟨fun c => bound c (by cases c <;> simp [Ix4.all]), attained.imp_right fun ⟨c, _, h⟩ => ⟨c, h⟩⟩

/-- R37 to R45: the readings and the index of a sample event, and what it leaves alone. -/
theorem State.sample_spec (s : State) (x : Quad Reading) :
    (s.sample x).fume = { s.fume with channels := s.cfg.sampleChannels s.fume.channels x
                                      index := s.cfg.zoneIndex (s.cfg.sampleChannels s.fume.channels x)
                                      cls := s.cfg.judgeFume (s.cfg.zoneIndex (s.cfg.sampleChannels s.fume.channels x))
                                        s.fume.cls } ∧
    (s.sample x).zone = s.zone ∧ (s.sample x).monitor = s.monitor ∧ (s.sample x).view = s.view ∧
    (s.sample x).fans = s.fans ∧ (s.sample x).dampers = s.dampers ∧ (s.sample x).line = s.line ∧
    (s.sample x).rx = s.rx ∧ (s.sample x).forces = s.forces ∧ (s.sample x).port = s.port ∧
    (s.sample x).store = s.store := by
  simp [State.sample]

/-- The sample timer at an expiry. -/
def State.setSampleExpiry (s : State) (e : Tu) : State := { s with fume := { s.fume with sampleExpiry := e } }

theorem State.rearmSample_eq (s : State) :
    s.rearmSample = s.setSampleExpiry (tuAfter s.fume.sampleExpiry Config.sampleTu) := rfl

theorem State.setSampleExpiry_frame (s : State) (e : Tu) : (s.setSampleExpiry e).fume.sampleExpiry = e ∧
    (s.setSampleExpiry e).cfg = s.cfg ∧ (s.setSampleExpiry e).fume.channels = s.fume.channels ∧
    (s.setSampleExpiry e).zone = s.zone ∧ (s.setSampleExpiry e).monitor = s.monitor ∧
    (s.setSampleExpiry e).view = s.view ∧ (s.setSampleExpiry e).fans = s.fans ∧
    (s.setSampleExpiry e).dampers = s.dampers ∧ (s.setSampleExpiry e).line = s.line ∧
    (s.setSampleExpiry e).rx = s.rx ∧ (s.setSampleExpiry e).forces = s.forces ∧ (s.setSampleExpiry e).port = s.port ∧
    (s.setSampleExpiry e).store = s.store :=
  ⟨rfl, rfl, rfl, rfl, rfl, rfl, rfl, rfl, rfl, rfl, rfl, rfl, rfl⟩

theorem exec_sampleEvent {s u : State} {dt : Tu} (x : Quad Reading) (h : s.released = true) (hu : s.elapse dt = u)
    (due : reached u.tu u.fume.sampleExpiry = true) (valid : u.recordValid = true) :
    exec (.sampleEvent dt x) s = .next (u.rearmSample.sample x).serve := by
  rw [exec, execSampleEvent, live_released _ _ _ h, hu, if_pos due, if_pos valid]

/-- Settles O18: each channel by its reading and its health, and F as their maximum. -/
theorem sampleEventTakesReadings : Obligations.SampleEventTakesReadings := by
  refine ⟨fun r low high => ?_, fun s u dt x h hu due valid => ?_⟩
  · unfold rawIndex
    omega
  obtain ⟨fume, zone, monitor, view, fans, dampers, line, rx, forces, port, store⟩ := u.rearmSample.sample_spec x
  obtain ⟨greatest, attained⟩ := u.cfg.zoneIndex_spec (u.cfg.sampleChannels u.fume.channels x)
  obtain ⟨t, ht⟩ : ∃ t, t = (u.rearmSample.sample x).serve := ⟨_, rfl⟩
  have tfume : t.fume = (u.rearmSample.sample x).fume := by rw [ht]; simp
  obtain ⟨expires, rcfg, rchannels, rest⟩ :=
    u.setSampleExpiry_frame (tuAfter u.fume.sampleExpiry Config.sampleTu)
  rw [← State.rearmSample_eq] at expires rcfg rchannels rest
  rw [rcfg, rchannels] at fume
  have channels : t.fume.channels = u.cfg.sampleChannels u.fume.channels x := by rw [tfume, fume]
  have index : t.fume.index = u.cfg.zoneIndex (u.cfg.sampleChannels u.fume.channels x) := by rw [tfume, fume]
  have expiry : t.fume.sampleExpiry = tuAfter u.fume.sampleExpiry 2500 := by
    rw [tfume, fume, expires, Config.sampleTu]
  refine ⟨t, by rw [exec_sampleEvent x h hu due valid, ht], expiry, fun c off => ?_, fun c a b r idx on ha hb hr hi => ?_,
    by rw [channels, index]; exact greatest, by rw [channels, index]; exact attained, ?_⟩
  · rw [channels, Record.sampleChannels_get, Record.sampleChannel, off]
    rfl
  · have taken : b = a.take r (u.cfg.gains.get c) u.cfg.fallback := by
      rw [← hb, channels, Record.sampleChannels_get, Record.sampleChannel, if_pos on, ha, hr]
    refine ⟨fun low high => ?_, fun bad => ?_⟩
    · rw [a.take_good _ _ ⟨low, high⟩, hi] at taken
      subst taken
      rfl
    · rw [a.take_faulty _ _ bad] at taken
      subst taken
      refine ⟨FumeChannel.takeFaulty_history _, fun hh => ?_, fun hh few => ?_, fun hh many => ?_, fun hh => ?_⟩
      · rw [FumeChannel.takeFaulty_healthy _ hh]
        exact ⟨rfl, rfl, rfl⟩
      · rw [FumeChannel.takeFaulty_holding _ hh, if_pos few]
        exact ⟨hh, rfl, rfl⟩
      · rw [FumeChannel.takeFaulty_holding _ hh, if_neg (Nat.not_lt.mpr many)]
        exact ⟨rfl, rfl, rfl⟩
      · rw [FumeChannel.takeFaulty_faulted _ hh]
        exact ⟨hh, rfl, rfl⟩
  · rw [ht]
    simp [zone, monitor, view, fans, dampers, line, rx, forces, port, store, rest]

end Sys2Proof.Machine
end

section
/-! The start of evaluation and the release of the hold (R56, R61, R72). -/

namespace Sys2Proof.Machine

/-- R52: some point of a type is active. -/
def State.Active (s : State) (ty : PointType) : Prop :=
  ∃ p, s.cfg.types.get p = ty ∧ s.monitor.filtered.get (.point p) = true

theorem State.activeOfType_ne_nil_iff (s : State) (ty : PointType) : s.activeOfType ty ≠ [] ↔ s.Active ty := by
  have mem : (∃ p, p ∈ s.activeOfType ty) ↔ s.Active ty := exists_congr fun p => s.mem_activeOfType ty p
  exact ⟨fun h => mem.mp (List.exists_mem_of_ne_nil _ h), fun h => List.ne_nil_of_mem (mem.mpr h).choose_spec⟩

theorem State.activeOfType_congr {s t : State} (cfg : t.cfg = s.cfg) (filtered : t.monitor.filtered = s.monitor.filtered)
    (ty : PointType) : t.activeOfType ty = s.activeOfType ty := by
  rw [State.activeOfType, State.activeOfType, cfg, filtered]

/-- R56, step 1: the latches that evaluation starts with. -/
theorem State.latchesAtStart_get (s : State) (p : Ix4) : s.latchesAtStart.get p = true ↔
    s.monitor.filtered.get (.point p) = true ∧ (s.cfg.types.get p = .heat ∨ s.cfg.types.get p = .manual) := by
  have get : s.latchesAtStart.get p = (s.monitor.filtered.get (.point p) &&
      (decide (s.cfg.types.get p = .heat) || decide (s.cfg.types.get p = .manual))) := by cases p <;> rfl
  rw [get, Bool.and_eq_true, Bool.or_eq_true, decide_eq_true_iff, decide_eq_true_iff]

/-- R56: evaluation on, with its first latches. -/
def State.evaluated (s : State) : State :=
  { s with monitor := { s.monitor with evaluation := true, latch := s.latchesAtStart } }

theorem State.startEvaluation_eq (s : State) : s.startEvaluation = s.evaluated.judgeAtStart := rfl

theorem State.latchedOfType_evaluated (s : State) {ty : PointType} (h : ty = .heat ∨ ty = .manual) :
    s.evaluated.latchedOfType ty = true ↔ s.Active ty := by
  have get : ∀ p, s.evaluated.cfg.types.get p = ty → (s.evaluated.monitor.latch.get p = true ↔
      s.monitor.filtered.get (.point p) = true) := fun p hp =>
    (s.latchesAtStart_get p).trans (and_iff_left (h.imp hp.trans hp.trans))
  have all : ∀ p : Ix4, p ∈ Ix4.all := fun p => by cases p <;> simp [Ix4.all]
  rw [State.latchedOfType, List.any_eq_true]
  simp only [Bool.and_eq_true, decide_eq_true_eq]
  exact ⟨fun ⟨p, _, hp, hl⟩ => ⟨p, hp, (get p hp).mp hl⟩, fun ⟨p, hp, hf⟩ => ⟨p, all p, hp, (get p hp).mpr hf⟩⟩

/-- R61: the first cause that applies as evaluation starts. -/
theorem State.causeAtStart_evaluated (s : State) (c : FireCause) : s.evaluated.causeAtStart = some c ↔
    c = .heat ∧ s.Active .heat ∨ c = .manual ∧ s.Active .manual ∧ ¬ s.Active .heat ∨
    c = .panel ∧ s.Active .panel ∧ ¬ s.Active .heat ∧ ¬ s.Active .manual ∨
    (c = .smokeTwo ∧ 2 ≤ s.smokeCount ∨ c = .smokeConfirmed ∧ s.smokeCount = 1 ∧ s.cfg.confirmTime = 0) ∧
      ¬ s.Active .heat ∧ ¬ s.Active .manual ∧ ¬ s.Active .panel := by
  have panel : s.evaluated.activeOfType .panel ≠ [] ↔ s.Active .panel := s.activeOfType_ne_nil_iff .panel
  have count : s.evaluated.smokeCount = s.smokeCount := rfl
  have time : s.evaluated.cfg = s.cfg := State.cfg_of_store rfl
  have heats : s.evaluated.latchedOfType .heat = true ↔ s.Active .heat := s.latchedOfType_evaluated (.inl rfl)
  have manuals : s.evaluated.latchedOfType .manual = true ↔ s.Active .manual := s.latchedOfType_evaluated (.inr rfl)
  have named : ∀ d : FireCause, some d = some c ↔ c = d := fun d => by rw [Option.some_inj, eq_comm]
  unfold State.causeAtStart
  by_cases heat : s.Active .heat
  · rw [if_pos (heats.mpr heat), named]
    simp [heat]
  rw [if_neg (heats.not.mpr heat)]
  by_cases manual : s.Active .manual
  · rw [if_pos (manuals.mpr manual), named]
    simp [heat, manual]
  rw [if_neg (manuals.not.mpr manual)]
  by_cases panelOn : s.Active .panel
  · rw [if_pos (panel.mpr panelOn), named]
    simp [heat, manual, panelOn]
  rw [if_neg (panel.not.mpr panelOn), count, time]
  by_cases two : 2 ≤ s.smokeCount
  · have many : s.smokeCount ≠ 1 := by omega
    rw [if_pos two, named]
    simp [heat, manual, panelOn, two, many]
  rw [if_neg two]
  by_cases one : s.smokeCount = 1 ∧ s.cfg.confirmTime = 0
  · rw [if_pos one, named]
    simp [heat, manual, panelOn, one]
  · rw [if_neg one]
    simp [heat, manual, panelOn, two, one]

theorem State.judgeAtStart_declares {s : State} {c : FireCause} (h : s.causeAtStart = some c) :
    s.judgeAtStart = s.declare c := by rw [State.judgeAtStart, h]

theorem State.judgeAtStart_quiet {s : State} (h : s.causeAtStart = none) :
    s.judgeAtStart = if s.smokeCount = 1 then s.enterPreAlarm else s := by rw [State.judgeAtStart, h]

/-- R56, steps 2 and 3: the three outcomes of the start of evaluation. -/
theorem State.judgeAtStart_cases (s : State) :
    (∃ c, s.causeAtStart = some c ∧ s.judgeAtStart = s.declare c) ∨
    s.causeAtStart = none ∧ s.smokeCount = 1 ∧ s.judgeAtStart = s.enterPreAlarm ∨
    s.causeAtStart = none ∧ s.smokeCount ≠ 1 ∧ s.judgeAtStart = s := by
  cases hc : s.causeAtStart with
  | some c => exact .inl ⟨c, rfl, State.judgeAtStart_declares hc⟩
  | none =>
    rw [State.judgeAtStart_quiet hc]
    by_cases one : s.smokeCount = 1
    · exact .inr (.inl ⟨rfl, one, if_pos one⟩)
    · exact .inr (.inr ⟨rfl, one, if_neg one⟩)

/-- R56: what every outcome of the start of evaluation keeps. -/
theorem State.judgeAtStart_keeps (s : State) (clear : s.forces = Forces.clear) :
    (s.judgeAtStart.zone = s.zone ∨ s.judgeAtStart.zone = { s.zone with mode := .fire, listen := none, purge := none }) ∧
    s.judgeAtStart.forces = Forces.clear ∧ s.judgeAtStart.monitor.evaluation = s.monitor.evaluation ∧
    s.judgeAtStart.monitor.filtered = s.monitor.filtered ∧ s.judgeAtStart.monitor.latch = s.monitor.latch ∧
    s.judgeAtStart.monitor.run = s.monitor.run := by
  rcases s.judgeAtStart_cases with ⟨c, -, h⟩ | ⟨-, -, h⟩ | ⟨-, -, h⟩
  · rw [h]; simp
  · rw [h]; simp [State.enterPreAlarm_monitor, clear]
  · rw [h]; simp [clear]

/-- R72: the state that evaluation starts in as HOLD is left. -/
theorem State.enterListen_spec (s : State) : (s.enterMode .listen).forces = Forces.clear ∧
    (s.enterMode .listen).zone = { s.zone with mode := .listen, purge := none
                                               listen := some (tuAfter s.tu (2 * s.cfg.period * 1000)) } ∧
    (s.enterMode .listen).cfg = s.cfg ∧ (s.enterMode .listen).fmaxEff = s.fmaxEff := by
  have fans : (s.enterMode .listen).fans = s.fans := by
    rw [State.enterMode_eq, if_neg (by simp)]
    simp
  have cfg : (s.enterMode .listen).cfg = s.cfg := State.cfg_of_store (by simp)
  exact ⟨by simp [Mode.dropsForces], by simp [State.listenTimerFor, State.purgeTimerFor, Config.stepTu], cfg,
    State.fmaxEff_of_fans fans cfg⟩

theorem State.mayLeaveHold_iff (s : State) : s.mayLeaveHold = true ↔
    s.zone.mode = .hold ∧ s.pins.hold = false ∧ s.recordValid = true ∧ s.store.writing = none := by
  simp [State.mayLeaveHold, and_assoc]

/-- Settles O7: evaluation starts on the points as they stand, in the three outcomes of `judgeAtStart`. -/
theorem holdLineLeavesHold : Obligations.HoldLineLeavesHold := by
  intro s u dt active h hu
  have start : exec (.holdLineChange dt active) s = if (u.setHold active).mayLeaveHold then
      .next (u.setHold active).leaveHold.finish else .next (u.setHold active) := by
    rw [exec, execHoldLineChange, if_pos h, hu]
  refine ⟨fun inactive hold valid free => ?_, fun stays => ?_⟩
  · subst inactive
    rw [if_pos ((u.setHold false).mayLeaveHold_iff.mpr ⟨hold, rfl, valid, free⟩)] at start
    obtain ⟨v, hv⟩ : ∃ v, v = u.setHold false := ⟨_, rfl⟩
    have same : v.tu = u.tu ∧ v.store = u.store ∧ v.view = u.view ∧ v.fume = u.fume ∧ v.line = u.line ∧ v.rx = u.rx ∧
        v.port = u.port ∧ v.zone = u.zone ∧ v.monitor = u.monitor ∧ v.tx = u.tx ∧ v.cfg = u.cfg ∧ v.fmaxEff = u.fmaxEff ∧
        v.pins = { u.pins with hold := false } := by
      rw [hv]; exact ⟨rfl, rfl, rfl, rfl, rfl, rfl, rfl, rfl, rfl, rfl, rfl, rfl, rfl⟩
    obtain ⟨vtu, vstore, vview, vfume, vline, vrx, vport, vzone, vmonitor, vtx, vcfg, vfmax, vpins⟩ := same
    obtain ⟨y, hy⟩ : ∃ y, y = v.enterMode .listen := ⟨_, rfl⟩
    obtain ⟨yforces, yzone, ycfg, yfmax⟩ := v.enterListen_spec
    rw [← hy, vzone, vtu, vcfg] at yzone
    rw [← hy] at yforces ycfg yfmax
    have ymonitor : y.monitor = u.monitor := by rw [hy]; simp [vmonitor]
    have yurgent : y.tx.urgent = u.tx.urgent := by rw [hy]; simp [vtx]
    have yrest : y.tu = u.tu ∧ y.store = u.store ∧ y.view = u.view ∧ y.fume = u.fume ∧ y.line = u.line ∧ y.rx = u.rx ∧
        y.port = u.port ∧ y.pins = { u.pins with hold := false } := by
      rw [hy]; simp [vtu, vstore, vview, vfume, vline, vrx, vport, vpins]
    rw [vcfg] at ycfg
    rw [vfmax] at yfmax
    have active : y.Active = u.Active := by
      funext ty; rw [State.Active, State.Active, ycfg, ymonitor]
    have count : y.smokeCount = u.smokeCount :=
      congrArg List.length (State.activeOfType_congr ycfg (by rw [ymonitor]) .smoke)
    have cause := y.causeAtStart_evaluated
    rw [active, count, ycfg] at cause
    obtain ⟨w, hw⟩ : ∃ w, w = y.evaluated := ⟨_, rfl⟩
    have wsame : w.zone = y.zone ∧ w.forces = y.forces ∧ w.tx = y.tx ∧ w.cfg = y.cfg ∧ w.fmaxEff = y.fmaxEff ∧
        w.tu = y.tu ∧ w.store = y.store ∧ w.view = y.view ∧ w.fume = y.fume ∧ w.line = y.line ∧ w.rx = y.rx ∧
        w.port = y.port ∧ w.pins = y.pins ∧ w.smokeCount = y.smokeCount ∧
        w.monitor = { u.monitor with evaluation := true, latch := y.latchesAtStart } := by
      rw [hw, ← ymonitor]
      exact ⟨rfl, rfl, rfl, rfl, rfl, rfl, rfl, rfl, rfl, rfl, rfl, rfl, rfl, rfl, rfl⟩
    obtain ⟨wzone, wforces, wtx, wcfg, wfmax, wtu, wstore, wview, wfume, wline, wrx, wport, wpins, wcount, wmonitor⟩ := wsame
    rw [← hw] at cause
    obtain ⟨kzone, kforces, kevaluation, kfiltered, klatch, -⟩ :=
      w.judgeAtStart_keeps (by rw [wforces, yforces])
    rw [wzone, yzone] at kzone
    have leave : v.leaveHold = w.judgeAtStart := by rw [State.leaveHold, ← hy, State.startEvaluation_eq, ← hw]
    rw [← hv, leave] at start
    obtain ⟨ytu, ystore, yview, yfume, yline, yrx, yport, ypins⟩ := yrest
    refine ⟨_, start, by simp [wpins, ypins], ?_, by simp [kevaluation, wmonitor], by simp [kforces], ?_, ?_,
      by simp [kfiltered, wmonitor], fun p => ?_, fun on hon => ?_, ?_, by simp [wtu, ytu], by simp [wstore, ystore],
      by simp [wview, yview], by simp [wfume, yfume], by simp [wline, yline], by simp [wrx, yrx], by simp [wport, yport]⟩
    · rcases kzone with hz | hz <;> simp [hz]
    · rcases kzone with hz | hz <;> simp [hz]
    · rcases kzone with hz | hz <;> simp [hz]
    · simp only [State.finish_frame]
      rw [klatch, wmonitor, y.latchesAtStart_get, ymonitor, ycfg]
    · obtain rfl : on = u.Active := funext fun ty => propext (hon ty)
      have quiet : ¬ u.Active .heat → ¬ u.Active .manual → ¬ u.Active .panel → ¬ 2 ≤ u.smokeCount →
          ¬ (u.smokeCount = 1 ∧ u.cfg.confirmTime = 0) → w.causeAtStart = none := by
        intro heat manual panel two one
        rw [Option.eq_none_iff_forall_ne_some]
        intro c hc
        have := (cause c).mp hc
        tauto
      refine ⟨fun c applies => ?_, fun heat manual panel one time => ?_, fun heat manual panel smoke => ?_⟩
      · rw [State.judgeAtStart_declares ((cause c).mpr applies)]
        obtain ⟨cls, -, urgent⟩ := w.declare_share c
        rw [wfmax, yfmax, wcfg, ycfg] at urgent
        simp [cls, urgent]
      · rw [State.judgeAtStart_quiet (quiet heat manual panel (by omega) (by omega)), if_pos (by rw [wcount, count, one])]
        obtain ⟨monitor, urgent, -, -⟩ := w.enterPreAlarm_spec
        rw [wtu, wcfg, ytu, ycfg] at monitor
        simp [monitor, urgent, wzone, yzone, wtx, yurgent]
      · have zero : u.smokeCount = 0 := by
          rw [State.smokeCount, List.length_eq_zero_iff]
          exact not_not.mp ((u.activeOfType_ne_nil_iff .smoke).not.mpr smoke)
        rw [State.judgeAtStart_quiet (quiet heat manual panel (by omega) (by omega)),
          if_neg (by rw [wcount, count, zero]; decide)]
        simp [wmonitor, wzone, yzone, wtx, yurgent]
    · rcases kzone with hz | hz <;> simp [hz]
  · rw [start, if_neg]
    · rfl
    · rw [State.mayLeaveHold_iff]
      rintro ⟨hold, level, valid, free⟩
      rcases stays with act | mode | bad | writing
      · exact absurd (level.symm.trans act) (by simp)
      · exact mode hold
      · exact absurd (bad.symm.trans valid) (by simp)
      · exact writing free

end Sys2Proof.Machine
end

section
/-! The dampers judged against a record, and the fans that stay FAULTED meanwhile (R96, R108, R110). -/

namespace Sys2Proof.Machine

/-! ### Fans that stay FAULTED -/

/-- R96: a fan FAULTED without a claim keeps its record. -/
def State.KeepsFaulted (s t : State) : Prop :=
  ∀ f, (s.fan f).state = .faulted → (s.fan f).claim ≠ .waiting → t.fan f = s.fan f

theorem State.KeepsFaulted.refl (s : State) : s.KeepsFaulted s := fun _ _ _ => rfl

theorem State.KeepsFaulted.trans {s t u : State} (h : s.KeepsFaulted t) (k : t.KeepsFaulted u) : s.KeepsFaulted u := by
  intro f faulted idle
  have same := h f faulted idle
  exact (k f (by rw [same]; exact faulted) (by rw [same]; exact idle)).trans same

theorem State.KeepsFaulted.of_fans {s t : State} (h : t.fans = s.fans) : s.KeepsFaulted t :=
  fun f _ _ => State.fan_congr h f

/-- R96: what touches one fan alone, and that one only where it is not FAULTED. -/
theorem State.KeepsFaulted.of_fan {s t : State} (f : Fan) (others : ∀ g, g ≠ f → t.fan g = s.fan g)
    (own : (s.fan f).state = .faulted → t = s) : s.KeepsFaulted t := by
  intro g faulted _
  by_cases hg : g = f
  · subst hg; rw [own faulted]
  · exact others g hg

theorem State.KeepsFaulted.foldl {α : Type} {op : State → α → State} (h : ∀ (t : State) x, t.KeepsFaulted (op t x))
    (l : List α) (s : State) : s.KeepsFaulted (l.foldl op s) := by
  induction l generalizing s with
  | nil => exact .refl s
  | cons x xs ih => exact (h s x).trans (ih _)

theorem State.KeepsFaulted.faultFan (s : State) (f : Fan) (c : FanFault) : s.KeepsFaulted (s.faultFan f c) := by
  intro g faulted _
  unfold State.faultFan
  simp only
  split
  · rfl
  · rename_i well
    have hg : g ≠ f := fun h => well (h ▸ faulted)
    rw [State.stage_fan_of_faulted] <;> simp [hg, State.abortClaim_fan_of_ne, faulted]

theorem State.KeepsFaulted.fanReachesOpen (s : State) (f : Fan) : s.KeepsFaulted (s.fanReachesOpen f) :=
  .of_fan f (fun _ hg => s.fanReachesOpen_fan_of_ne hg) fun h => if_neg (by simp [h])

theorem State.KeepsFaulted.fanLeavesOpen (s : State) (f : Fan) : s.KeepsFaulted (s.fanLeavesOpen f) :=
  .of_fan f (fun _ hg => s.fanLeavesOpen_fan_of_ne hg) fun h => s.fanLeavesOpen_of_unwanted f (by simp [h, FanState.wantsOpen])

/-- R115: no damper's move reaches a fan FAULTED. -/
theorem State.KeepsFaulted.moveDamper (s : State) (d : DamperId) (x : DamperUnit) : s.KeepsFaulted (s.moveDamper d x) := by
  refine State.KeepsFaulted.trans (t := s.setDamper d x) (.of_fans rfl) ?_
  unfold State.moveDamper State.handDamper
  cases d with
  | td k => exact .refl _
  | ed f =>
    simp only
    split
    · exact .refl _
    split
    · exact .faultFan _ f _
    split
    · exact .fanReachesOpen _ f
    split
    · exact .fanLeavesOpen _ f
    · exact .refl _

theorem State.KeepsFaulted.driveDamper (s : State) (d : DamperId) : s.KeepsFaulted (s.driveDamper d) :=
  fun _ faulted _ => State.driveDamper_fan_of_faulted faulted d

theorem State.KeepsFaulted.settleByLimits (s : State) (d : DamperId) : s.KeepsFaulted (s.settleByLimits d) := .moveDamper s d _

theorem State.KeepsFaulted.judgeDamper (s : State) (d : DamperId) : s.KeepsFaulted (s.judgeDamper d) := by
  unfold State.judgeDamper
  split
  · split
    · exact .refl s
    · exact State.KeepsFaulted.trans (t := s.setDamper d { s.damper d with fitted := true }) (.of_fans rfl)
        ((State.KeepsFaulted.settleByLimits _ d).trans (.driveDamper _ d))
  · exact .moveDamper s d _

theorem State.KeepsFaulted.finish (s : State) : s.KeepsFaulted s.finish :=
  fun _ faulted idle => State.finish_fan_of_faulted faulted idle

theorem State.KeepsFaulted.reclaim (s : State) (f : Fan) : s.KeepsFaulted (s.reclaim f) := by
  refine .of_fan f (fun g hg => ?_) fun h => if_neg (by simp [h])
  unfold State.reclaim
  split
  · simp [hg, State.startClaim_fan_of_ne]
  · rfl

theorem State.KeepsFaulted.enterMode (s : State) (m : Mode) : s.KeepsFaulted (s.enterMode m) := by
  have first : s.KeepsFaulted (s.setModeTimed m).recompute := .of_fans (by simp)
  rw [State.enterMode_eq]
  split
  · exact first.trans ((State.KeepsFaulted.reclaim _ .A).trans (.reclaim _ .B))
  · exact first

theorem State.KeepsFaulted.declare (s : State) (c : FireCause) : s.KeepsFaulted (s.declare c) := by
  refine State.KeepsFaulted.trans (t := { s with monitor := { s.monitor with
    decl := .declared, cause := some c, confirm := none } }) (.of_fans rfl) ((State.KeepsFaulted.enterMode _ .fire).trans ?_)
  unfold State.declare
  simp only
  split
  · exact .of_fans (by simp [State.queueUrgent])
  · exact .of_fans rfl

theorem State.KeepsFaulted.tryLeaveHold (s : State) : s.KeepsFaulted s.tryLeaveHold := by
  have judge : ∀ t : State, t.KeepsFaulted t.judgeAtStart := by
    intro t
    rcases t.judgeAtStart_cases with ⟨c, -, h⟩ | ⟨-, -, h⟩ | ⟨-, -, h⟩ <;> rw [h]
    · exact .declare t c
    · exact .of_fans (by simp)
    · exact .refl t
  unfold State.tryLeaveHold
  split
  · rw [State.leaveHold, State.startEvaluation_eq]
    exact (State.KeepsFaulted.enterMode s .listen).trans
      (State.KeepsFaulted.trans (t := (s.enterMode .listen).evaluated) (.of_fans rfl) (judge _))
  · exact .refl s

/-- R115: a move of another damper makes no fan FAULTED, and returns none. -/
theorem State.moveDamper_faults {s : State} {f : Fan} {d : DamperId} (h : d ≠ .ed f) (x : DamperUnit) :
    ((s.moveDamper d x).fan f).state = .faulted ↔ (s.fan f).state = .faulted := by
  cases d with
  | td k => exact Iff.rfl
  | ed g =>
    have hg : f ≠ g := fun he => h (by rw [he])
    by_cases hs : x.state = .stuck
    · unfold State.moveDamper State.handDamper
      simp only [if_pos hs]
      split
      · exact Iff.rfl
      · rw [State.faultFan_faults]
        exact or_iff_right hg
    · rw [State.moveDamper, State.handDamper_fan_of_ne _ hg _ _ hs]
      exact Iff.rfl

theorem State.judgeDamper_faults {s : State} {f : Fan} {d : DamperId} (h : d ≠ .ed f) :
    ((s.judgeDamper d).fan f).state = .faulted ↔ (s.fan f).state = .faulted := by
  unfold State.judgeDamper
  split
  · split
    · exact Iff.rfl
    · rw [State.settleDamper, State.SameFaults.driveDamper _ _ f, State.settleByLimits, State.moveDamper_faults h]
      exact Iff.rfl
  · exact State.moveDamper_faults h _

/-! ### The judgement's frame -/

@[simp] theorem State.judgeDamper_frame (s : State) (d : DamperId) :
    (s.judgeDamper d).tu = s.tu ∧ (s.judgeDamper d).released = s.released ∧ (s.judgeDamper d).pins = s.pins ∧
    (s.judgeDamper d).store = s.store ∧ (s.judgeDamper d).view = s.view ∧ (s.judgeDamper d).fume = s.fume ∧
    (s.judgeDamper d).monitor = s.monitor ∧ (s.judgeDamper d).zone = s.zone ∧ (s.judgeDamper d).line = s.line ∧
    (s.judgeDamper d).rx = s.rx ∧ (s.judgeDamper d).forces = s.forces ∧ (s.judgeDamper d).port = s.port := by
  unfold State.judgeDamper
  (repeat' split) <;> simp [State.setDamper]

@[simp] theorem State.judgeDampers_frame (s : State) :
    s.judgeDampers.tu = s.tu ∧ s.judgeDampers.released = s.released ∧ s.judgeDampers.pins = s.pins ∧
    s.judgeDampers.store = s.store ∧ s.judgeDampers.view = s.view ∧ s.judgeDampers.fume = s.fume ∧
    s.judgeDampers.monitor = s.monitor ∧ s.judgeDampers.zone = s.zone ∧ s.judgeDampers.line = s.line ∧
    s.judgeDampers.rx = s.rx ∧ s.judgeDampers.forces = s.forces ∧ s.judgeDampers.port = s.port := by
  simp [State.judgeDampers, DamperId.all]

@[simp] theorem State.tryLeaveHold_frame (s : State) :
    s.tryLeaveHold.tu = s.tu ∧ s.tryLeaveHold.released = s.released ∧ s.tryLeaveHold.pins = s.pins ∧
    s.tryLeaveHold.store = s.store ∧ s.tryLeaveHold.view = s.view ∧ s.tryLeaveHold.fume = s.fume ∧
    s.tryLeaveHold.dampers = s.dampers ∧ s.tryLeaveHold.line = s.line ∧ s.tryLeaveHold.rx = s.rx ∧
    s.tryLeaveHold.port = s.port := by
  unfold State.tryLeaveHold
  split <;> simp

/-- R108: the judgement of a damper writes no other record. -/
theorem State.judgeDamper_damper_of_ne (s : State) {d d' : DamperId} (h : d' ≠ d) :
    (s.judgeDamper d).damper d' = s.damper d' := by
  unfold State.judgeDamper
  split
  · split
    · rfl
    · rw [State.settleDamper, State.driveDamper_damper, if_neg h, State.settleByLimits, State.moveDamper_damper, if_neg h,
        State.setDamper_damper, if_neg h]
  · rw [State.moveDamper_damper, if_neg h]

theorem State.judgeDamper_unfit {s : State} {d : DamperId} (h : s.fits d = false) :
    s.judgeDamper d = s.moveDamper d DamperUnit.unfitted := if_neg (by simp [h])

theorem State.judgeDamper_fits {s : State} {d : DamperId} (h : s.fits d = true) (fitted : (s.damper d).fitted = true) :
    s.judgeDamper d = s := by rw [State.judgeDamper, if_pos h, if_pos fitted]

theorem State.judgeDamper_new {s : State} {d : DamperId} (h : s.fits d = true) (fitted : (s.damper d).fitted = false) :
    s.judgeDamper d = (s.setDamper d { s.damper d with fitted := true }).settleDamper d := by
  rw [State.judgeDamper, if_pos h, if_neg (by simp [fitted])]

theorem State.fits_congr {s t : State} (h : t.store = s.store) (d : DamperId) : t.fits d = s.fits d := by
  have cfg : t.cfg = s.cfg := State.cfg_of_store h
  have valid : t.recordValid = s.recordValid := by rw [State.recordValid, State.recordValid, h]
  rcases d with (_ | _) | k <;> simp only [State.fits, cfg, valid]

/-- R108: the judgement of one damper among all: it finds its record as it stood, its fan no more and no less FAULTED, and
leaves its record to the end. -/
theorem State.judgeDampers_at (s : State) (d : DamperId) : ∃ y : State, y.tu = s.tu ∧ y.pins = s.pins ∧ y.store = s.store ∧
    y.damper d = s.damper d ∧ (∀ f, d = .ed f → ((y.fan f).state = .faulted ↔ (s.fan f).state = .faulted)) ∧
    s.judgeDampers.damper d = (y.judgeDamper d).damper d ∧ (y.judgeDamper d).KeepsFaulted s.judgeDampers := by
  obtain ⟨l, r, all, left, right⟩ : ∃ l r, DamperId.all = l ++ d :: r ∧ d ∉ l ∧ d ∉ r := by
    have mem : d ∈ DamperId.all := by rcases d with (_ | _) | (_ | _ | _ | _) <;> simp [DamperId.all]
    obtain ⟨l, r, all⟩ := List.append_of_mem mem
    have nodup : (l ++ d :: r).Nodup := by rw [← all]; decide
    rw [List.nodup_append, List.nodup_cons] at nodup
    exact ⟨l, r, all, fun h => nodup.2.2 d h d (List.mem_cons_self ..) rfl, nodup.2.1.1⟩
  have apart : ∀ (m : List DamperId) (t : State), d ∉ m →
      (m.foldl State.judgeDamper t).tu = t.tu ∧ (m.foldl State.judgeDamper t).pins = t.pins ∧
      (m.foldl State.judgeDamper t).store = t.store ∧ (m.foldl State.judgeDamper t).damper d = t.damper d ∧
      ∀ f, d = .ed f → (((m.foldl State.judgeDamper t).fan f).state = .faulted ↔ (t.fan f).state = .faulted) := by
    intro m
    induction m with
    | nil => exact fun t _ => ⟨rfl, rfl, rfl, rfl, fun _ _ => Iff.rfl⟩
    | cons a m ih =>
      intro t absent
      rw [List.mem_cons, not_or] at absent
      obtain ⟨ne, rest⟩ := absent
      obtain ⟨tu, pins, store, own, faults⟩ := ih (t.judgeDamper a) rest
      refine ⟨by simp [tu], by simp [pins], by simp [store], own.trans (t.judgeDamper_damper_of_ne ne), fun f hf => ?_⟩
      exact (faults f hf).trans (State.judgeDamper_faults (by rw [← hf]; exact Ne.symm ne))
  obtain ⟨tu, pins, store, own, faults⟩ := apart l s left
  obtain ⟨-, -, -, ends, -⟩ := apart r ((l.foldl State.judgeDamper s).judgeDamper d) right
  have whole : s.judgeDampers = r.foldl State.judgeDamper ((l.foldl State.judgeDamper s).judgeDamper d) := by
    rw [State.judgeDampers, all, List.foldl_append, List.foldl_cons]
  refine ⟨l.foldl State.judgeDamper s, tu, pins, store, own, faults, ?_, ?_⟩ <;> rw [whole]
  · exact ends
  · exact .foldl State.KeepsFaulted.judgeDamper r _

/-! ### Where a settled damper is sent -/

/-- R110 to R112: a fitted damper as its limits and a command leave it, where not both limits are active. -/
def DamperUnit.sentTo (l : Limits) (e : Tu) (toOpen : Bool) : DamperUnit :=
  if toOpen then { fitted := true, loss := none, reason := none, state := if l.openLimit then .opened else .opening
                   travel := if l.openLimit then none else some e }
  else { fitted := true, loss := none, reason := none, state := if l.closedLimit then .closed else .closing
         travel := if l.closedLimit then none else some e }

/-- R112: a fitted damper that answers a command goes where its limits and the command send it. -/
theorem DamperUnit.travelling_eq_sentTo {u : DamperUnit} (fitted : u.fitted = true) {l : Limits}
    (h : ¬ (l.openLimit = true ∧ l.closedLimit = true)) (o : Bool) (e : Tu) : u.travelling o l e = .sentTo l e o := by
  obtain ⟨f, st, t, ls, r⟩ := u
  obtain rfl : f = true := fitted
  have apart : (l.openLimit && !l.closedLimit) = l.openLimit ∧ (l.closedLimit && !l.openLimit) = l.closedLimit := by
    cases ho : l.openLimit <;> cases hc : l.closedLimit <;> simp [ho, hc] at h ⊢
  obtain ⟨opens, closes⟩ := apart
  cases o <;> simp only [DamperUnit.travelling, DamperUnit.sentTo, opens, closes, if_true, Bool.false_eq_true, if_false] <;>
    split <;> rfl

/-- R110: where a damper's limits settle it. -/
theorem DamperUnit.settled_eq_sentTo {u : DamperUnit} (fitted : u.fitted = true) {l : Limits}
    (h : ¬ (l.openLimit = true ∧ l.closedLimit = true)) (o : Bool) (e : Tu) : ∃ o', u.settled o l e = .sentTo l e o' := by
  unfold DamperUnit.settled
  obtain ⟨f, st, t, ls, r⟩ := u
  obtain rfl : f = true := fitted
  obtain ⟨lo, lc⟩ := l
  cases lo with
  | false =>
    cases lc with
    | false => exact ⟨o, DamperUnit.travelling_eq_sentTo rfl (by simp) o e⟩
    | true => exact ⟨false, rfl⟩
  | true =>
    cases lc with
    | false => exact ⟨true, rfl⟩
    | true => exact absurd ⟨rfl, rfl⟩ h

/-- R110: both limits active settle a damper STUCK. -/
theorem DamperUnit.settled_both (u : DamperUnit) {l : Limits} (h : l.openLimit = true ∧ l.closedLimit = true) (o : Bool)
    (e : Tu) : u.settled o l e = u.stuckFor .bothLimits := by
  rw [DamperUnit.settled, h.1, h.2]

theorem DamperUnit.sentTo_follows (l : Limits) (e : Tu) (o : Bool) : (DamperUnit.sentTo l e o).fitted = true ∧
    (DamperUnit.sentTo l e o).state ≠ .stuck ∧ (DamperUnit.sentTo l e o).reason = none ∧
    (o = true ↔ (DamperUnit.sentTo l e o).state = .opened ∨ (DamperUnit.sentTo l e o).state = .opening) := by
  cases o <;> simp only [DamperUnit.sentTo, if_true, Bool.false_eq_true, if_false] <;> split <;> simp

/-- R111, R112: a damper that its limits and one command sent is sent by the command it answers. -/
theorem State.driven_sentTo {s : State} {d : DamperId} {l : Limits} {e : Tu} {o : Bool} (own : s.damper d = .sentTo l e o)
    (limits : s.pins.limits.get d = l) (expiry : s.travelExpiry = e) (h : ¬ (l.openLimit = true ∧ l.closedLimit = true)) :
    s.driven d = .sentTo l e (s.effectiveCommand d) := by
  obtain ⟨fitted, loose, -, follows⟩ := DamperUnit.sentTo_follows l e o
  by_cases same : s.effectiveCommand d = o
  · rw [State.driven_of_follow fun _ _ => by rw [own, same]; exact follows, own, same]
  · have moves : ¬ (s.effectiveCommand d = true ↔ (s.damper d).state = .opened ∨ (s.damper d).state = .opening) := by
      rw [own, ← follows, ← Bool.eq_iff_iff]
      exact same
    rw [State.driven, if_pos ⟨by rw [own, fitted], by rw [own]; exact loose, moves⟩, limits, expiry,
      DamperUnit.travelling_eq_sentTo (by rw [own, fitted]) h]

end Sys2Proof.Machine
end

section
/-! Reset release (R174). -/

namespace Sys2Proof.Machine

/-- R174: what the release samples and starts, with the sample timer's expiry given. -/
def State.releasedWith (s : State) (strap hold : Bool) (e : Tu) : State :=
  { s with
    released := true
    pins := { s.pins with strap := strap, hold := hold }
    line := { s.line with rate := if strap then .r115200 else .r38400, state := .receiving }
    rx := { s.rx with asm := .skipping }
    store := { s.store with record := judgeRecord s.store.bytes }
    fume := { s.fume with sampleExpiry := e }
    monitor := { s.monitor with run :=
      { points := ⟨s.runAtRelease (.point .i0), s.runAtRelease (.point .i1), s.runAtRelease (.point .i2),
                   s.runAtRelease (.point .i3)⟩,
        key := s.runAtRelease .key } } }

theorem State.releaseStart_eq (s : State) (strap hold : Bool) : s.releaseStart strap hold =
    ((s.releasedWith strap hold (tuAfter s.tu Config.sampleTu)).loadWindow .A).loadWindow .B := rfl

/-- R104: the proving windows alone are loaded. -/
theorem State.loadWindow_frame (s : State) (f : Fan) : (s.loadWindow f).tu = s.tu ∧ (s.loadWindow f).released = s.released ∧
    (s.loadWindow f).pins = s.pins ∧ (s.loadWindow f).store = s.store ∧ (s.loadWindow f).view = s.view ∧
    (s.loadWindow f).fume = s.fume ∧ (s.loadWindow f).monitor = s.monitor ∧ (s.loadWindow f).zone = s.zone ∧
    (s.loadWindow f).line = s.line ∧ (s.loadWindow f).rx = s.rx ∧ (s.loadWindow f).port = s.port ∧
    (s.loadWindow f).dampers = s.dampers ∧ ∀ g, ((s.loadWindow f).fan g).state = (s.fan g).state := by
  refine ⟨rfl, rfl, rfl, rfl, rfl, rfl, rfl, rfl, rfl, rfl, rfl, rfl, fun g => ?_⟩
  by_cases hg : g = f <;> simp [State.loadWindow, hg]

theorem State.runAtRelease_get (s : State) (strap hold : Bool) (e : Tu) (i : InputId) :
    (s.releasedWith strap hold e).monitor.run.get i = if s.pins.raw.get i then some s.tu else none := by
  rcases i with (_ | _ | _ | _) | _ <;> rfl

/-- R56: with no point active evaluation starts in LISTEN, and judges nothing. -/
theorem State.leaveHold_quiet {s : State} (quiet : ∀ i, s.monitor.filtered.get i = false) : s.leaveHold.zone.mode = .listen := by
  obtain ⟨y, hy⟩ : ∃ y, y = s.enterMode .listen := ⟨_, rfl⟩
  have monitor : y.monitor = s.monitor := by rw [hy]; simp
  have inactive : ∀ ty, ¬ y.Active ty := by
    rintro ty ⟨p, -, hp⟩
    rw [monitor, quiet] at hp
    cases hp
  have count : y.evaluated.smokeCount = 0 := by
    have none : y.activeOfType .smoke = [] := not_not.mp ((y.activeOfType_ne_nil_iff .smoke).not.mpr (inactive _))
    exact congrArg List.length none
  have cause : y.evaluated.causeAtStart = none := by
    rw [Option.eq_none_iff_forall_ne_some]
    intro c hc
    have := (y.causeAtStart_evaluated c).mp hc
    have few : y.smokeCount = 0 := count
    simp [inactive, few] at this
  rw [State.leaveHold, ← hy, State.startEvaluation_eq, State.judgeAtStart_quiet cause, if_neg (by rw [count]; decide)]
  have zone : y.evaluated.zone = y.zone := rfl
  rw [zone, hy]
  simp

/-- R72: the runs of the inputs stand as HOLD is left. -/
theorem State.tryLeaveHold_run (s : State) : s.tryLeaveHold.monitor.run = s.monitor.run := by
  unfold State.tryLeaveHold
  split
  · obtain ⟨forces, -⟩ := s.enterListen_spec
    obtain ⟨-, -, -, -, -, run⟩ := (s.enterMode .listen).evaluated.judgeAtStart_keeps forces
    rw [State.leaveHold, State.startEvaluation_eq, run]
    have same : (s.enterMode .listen).evaluated.monitor.run = (s.enterMode .listen).monitor.run := rfl
    rw [same]
    simp
  · rfl

/-- R108, R110: a damper that the record newly fits, from its judgement to the end of the event. -/
theorem State.judgeDampers_new {s z : State} {d : DamperId} {l : Limits} {e : Tu} (fits : s.fits d = true)
    (unfitted : s.damper d = DamperUnit.unfitted) (hl : s.pins.limits.get d = l) (he : s.travelExpiry = e)
    (own : z.damper d = s.judgeDampers.damper d) (tu : z.tu = s.tu) (pins : z.pins = s.pins) (store : z.store = s.store) :
    (l.openLimit = true → l.closedLimit = true →
      z.driven d = { fitted := true, state := .stuck, travel := none, loss := none, reason := some .bothLimits }) ∧
    (¬ (l.openLimit = true ∧ l.closedLimit = true) → z.driven d = .sentTo l e (z.effectiveCommand d)) := by
  obtain ⟨y, ytu, ypins, ystore, yown, -, judged, -⟩ := s.judgeDampers_at d
  have expiry : ∀ t : State, t.tu = s.tu → t.store = s.store → t.travelExpiry = e := fun t ht hs => by
    rw [← he, State.travelExpiry, State.travelExpiry, ht, State.cfg_of_store hs]
  have new := State.judgeDamper_new (s := y) (d := d) (by rw [State.fits_congr ystore, fits]) (by rw [yown, unfitted]; rfl)
  rw [yown, unfitted] at new
  obtain ⟨v, hv⟩ : ∃ v, v = y.setDamper d { DamperUnit.unfitted with fitted := true } := ⟨_, rfl⟩
  have vown : v.damper d = { DamperUnit.unfitted with fitted := true } := by rw [hv, State.setDamper_damper, if_pos rfl]
  have vsame : v.tu = s.tu ∧ v.pins = s.pins ∧ v.store = s.store := by
    rw [hv]; exact ⟨ytu, ypins, ystore⟩
  obtain ⟨vtu, vpins, vstore⟩ := vsame
  rw [← hv] at new
  obtain ⟨w, hw⟩ : ∃ w, w = v.settleByLimits d := ⟨_, rfl⟩
  have wown : w.damper d = (v.damper d).settled (v.effectiveCommand d) l e := by
    rw [hw, State.settleByLimits, State.moveDamper_damper, if_pos rfl, vpins, hl, expiry v vtu vstore]
  have wsame : w.tu = s.tu ∧ w.pins = s.pins ∧ w.store = s.store := by
    rw [hw]; simp [vtu, vpins, vstore]
  obtain ⟨wtu, wpins, wstore⟩ := wsame
  have given : z.damper d = w.driven d := by
    rw [own, judged, new, State.settleDamper, ← hw, State.driveDamper_damper, if_pos rfl]
  refine ⟨fun ho hc => ?_, fun apart => ?_⟩
  · have stuck : w.damper d = { fitted := true, state := .stuck, travel := none, loss := none, reason := some .bothLimits } := by
      rw [wown, DamperUnit.settled_both _ ⟨ho, hc⟩, vown]
      rfl
    have zown : z.damper d = w.damper d := by rw [given, State.driven_of_stuck (by rw [stuck])]
    rw [State.driven_of_stuck (by rw [zown, stuck]), zown, stuck]
  · obtain ⟨o, settled⟩ := DamperUnit.settled_eq_sentTo (u := v.damper d) (by rw [vown]) apart (v.effectiveCommand d) e
    have sent := State.driven_sentTo (wown.trans settled) (by rw [wpins, hl]) (expiry w wtu wstore) apart
    exact State.driven_sentTo (given.trans sent) (by rw [pins, hl]) (expiry z tu store) apart

/-- R96, R115: the fan of an extract damper that the record newly fits and that its limits settle STUCK. -/
theorem State.judgeDampers_faults {s z : State} {f : Fan} (fits : s.fits (.ed f) = true)
    (unfitted : s.damper (.ed f) = DamperUnit.unfitted) (both : (s.pins.limits.get (.ed f)).openLimit = true ∧
      (s.pins.limits.get (.ed f)).closedLimit = true) (well : (s.fan f).state ≠ .faulted)
    (kept : s.judgeDampers.KeepsFaulted z) : (z.fan f).state = .faulted ∧ (z.fan f).cause = some .damper := by
  obtain ⟨y, -, ypins, ystore, yown, faults, -, rest⟩ := s.judgeDampers_at (.ed f)
  have new := State.judgeDamper_new (s := y) (d := .ed f) (by rw [State.fits_congr ystore, fits]) (by rw [yown, unfitted]; rfl)
  rw [yown, unfitted] at new
  obtain ⟨v, hv⟩ : ∃ v, v = y.setDamper (.ed f) { DamperUnit.unfitted with fitted := true } := ⟨_, rfl⟩
  rw [← hv] at new
  have vown : v.damper (.ed f) = { DamperUnit.unfitted with fitted := true } := by rw [hv, State.setDamper_damper, if_pos rfl]
  have vpins : v.pins = s.pins := by rw [hv]; exact ypins
  have vwell : (v.fan f).state ≠ .faulted := by rw [hv]; exact fun h => well ((faults f rfl).mp h)
  obtain ⟨x, hx⟩ : ∃ x, x = (v.damper (.ed f)).stuckFor .bothLimits := ⟨_, rfl⟩
  have settled : v.settleByLimits (.ed f) = (v.setDamper (.ed f) x).faultFan f .damper := by
    rw [State.settleByLimits, vpins, DamperUnit.settled_both _ both, ← hx]
    exact State.moveDamper_stuck (by rw [vown]; simp [DamperUnit.unfitted]) (by rw [hx]; rfl)
  have record := (v.setDamper (.ed f) x).faultFan_fan f .damper vwell
  have idle := (v.setDamper (.ed f) x).faultFan_idle (f := f) (c := .damper) vwell
  rw [← settled] at record idle
  have faulted : ((v.settleByLimits (.ed f)).fan f).state = .faulted := by rw [record]; rfl
  have ends : (v.settleByLimits (.ed f)).KeepsFaulted z := by
    rw [new] at rest
    exact (State.KeepsFaulted.driveDamper _ _).trans (rest.trans kept)
  rw [ends f faulted idle, record]
  exact ⟨rfl, rfl⟩

theorem State.fits_iff {s : State} {r : Record} (h : s.store.record = some r) (d : DamperId) : s.fits d = true ↔
    d = .ed .A ∨ d = .ed .B ∧ r.fanCount = 2 ∨ ∃ k, d = .td k ∧ r.fitted.get k = true := by
  have valid : s.recordValid = true := by rw [State.recordValid, h]; rfl
  have cfg : s.cfg = r := by rw [State.cfg, h]; rfl
  rcases d with (_ | _) | k <;> simp [State.fits, valid, cfg]

theorem State.fits_of_invalid {s : State} (h : s.store.record = none) (d : DamperId) : s.fits d = false := by
  have invalid : s.recordValid = false := by rw [State.recordValid, h]; rfl
  rcases d with (_ | _) | k <;> simp [State.fits, invalid]

/-- R108: a damper that the record does not fit, from its judgement on. -/
theorem State.judgeDampers_unfit {s : State} {d : DamperId} (h : s.fits d = false) :
    s.judgeDampers.damper d = DamperUnit.unfitted := by
  obtain ⟨y, -, -, ystore, -, -, judged, -⟩ := s.judgeDampers_at d
  rw [judged, State.judgeDamper_unfit (by rw [State.fits_congr ystore, h]), State.moveDamper_damper, if_pos rfl]

/-- Settles O6: the release in its steps, each damper by its limits and the command that the event leaves. -/
theorem resetReleaseStarts : Obligations.ResetReleaseStarts := by
  intro s strap hold
  refine ⟨fun h => by rw [exec, execResetRelease, if_pos h], fun h => ?_⟩
  have start : exec (.resetRelease strap hold) s = .next (s.releaseStart strap hold).judgeDampers.tryLeaveHold.finish := by
    rw [exec, execResetRelease, if_neg (by simp [h])]
  obtain ⟨e, he⟩ : ∃ e, e = tuAfter s.tu 2500 := ⟨_, rfl⟩
  have expires : tuAfter s.tu Config.sampleTu = e := by rw [he, Config.sampleTu]
  obtain ⟨a, ha⟩ : ∃ a, a = s.releasedWith strap hold e := ⟨_, rfl⟩
  obtain ⟨w, hw⟩ : ∃ w, w = (a.loadWindow .A).loadWindow .B := ⟨_, rfl⟩
  rw [State.releaseStart_eq, expires, ← ha, ← hw] at start
  have afields : a.released = true ∧ a.tu = s.tu ∧ a.pins = { s.pins with strap := strap, hold := hold } ∧
      a.line = { s.line with rate := if strap then .r115200 else .r38400, state := .receiving } ∧
      a.rx = { s.rx with asm := .skipping } ∧ a.store = { s.store with record := judgeRecord s.store.bytes } ∧
      a.fume = { s.fume with sampleExpiry := e } ∧ a.view = s.view ∧ a.port = s.port ∧ a.dampers = s.dampers ∧
      a.fans = s.fans ∧ a.zone = s.zone ∧ a.monitor.filtered = s.monitor.filtered := by
    rw [ha]; exact ⟨rfl, rfl, rfl, rfl, rfl, rfl, rfl, rfl, rfl, rfl, rfl, rfl, rfl⟩
  obtain ⟨areleased, atu, apins, aline, arx, astore, afume, aview, aport, adampers, afans, azone, afiltered⟩ := afields
  have wframe := (a.loadWindow .A).loadWindow_frame .B
  rw [← hw] at wframe
  obtain ⟨wtu, wreleased, wpins, wstore, wview, wfume, wmonitor, wzone, wline, wrx, wport, wdampers, wfans⟩ := wframe
  obtain ⟨btu, breleased, bpins, bstore, bview, bfume, bmonitor, bzone, bline, brx, bport, bdampers, bfans⟩ :=
    a.loadWindow_frame .A
  obtain ⟨z, hz⟩ : ∃ z, z = w.judgeDampers.tryLeaveHold := ⟨_, rfl⟩
  have zframe : z.released = true ∧ z.tu = s.tu ∧ z.pins = { s.pins with strap := strap, hold := hold } ∧
      z.line = { s.line with rate := if strap then .r115200 else .r38400, state := .receiving } ∧
      z.rx = { s.rx with asm := .skipping } ∧ z.store = { s.store with record := judgeRecord s.store.bytes } ∧
      z.fume = { s.fume with sampleExpiry := e } ∧ z.view = s.view ∧ z.port = s.port := by
    rw [hz]
    simp only [State.tryLeaveHold_frame, State.judgeDampers_frame, wreleased, breleased, areleased, wtu, btu, atu, wpins,
      bpins, apins, wline, bline, aline, wrx, brx, arx, wstore, bstore, astore, wfume, bfume, afume, wview, bview, aview,
      wport, bport, aport, and_self]
  obtain ⟨zreleased, ztu, zpins, zline, zrx, zstore, zfume, zview, zport⟩ := zframe
  have zdamper : ∀ d, z.damper d = w.judgeDampers.damper d := fun d => by
    rw [hz]; exact State.damper_congr (by simp) d
  have record : w.store.record = judgeRecord s.store.bytes := by rw [wstore, bstore, astore]
  rw [← hz] at start
  refine ⟨_, start, by simp [zreleased], by simp [ztu], by simp [zpins], by simp [zline], by simp [zrx], by simp [zstore],
    by simp [zfume, he], fun i => ?_, by simp [zview], by simp [zport], fun none d => ?_, fun r d l x valid fitted unfitted
      stopped hl hx => ?_, fun mode free quiet => ?_⟩
  · simp only [State.finish_frame]
    rw [hz, State.tryLeaveHold_run]
    simp only [State.judgeDampers_frame]
    rw [wmonitor, bmonitor, ha, State.runAtRelease_get]
  · rw [State.finish_damper]
    have off : z.damper d = DamperUnit.unfitted := by
      rw [zdamper, State.judgeDampers_unfit (State.fits_of_invalid (record.trans none) d)]
    rw [State.driven_of_follow (fun hf => by rw [off] at hf; cases hf), off]
  · have fits : w.fits d = true := (State.fits_iff (record.trans valid) d).mpr fitted
    have wunfitted : w.damper d = DamperUnit.unfitted := by
      rw [State.damper_congr (s := s) (by rw [wdampers, bdampers, adampers]) d, unfitted]
    have wlimits : w.pins.limits.get d = l := by rw [wpins, bpins, apins]; exact hl
    have cfg : w.cfg = r := by rw [State.cfg, record, valid]; rfl
    have expiry : w.travelExpiry = x := by rw [State.travelExpiry, wtu, btu, atu, cfg]; exact hx
    obtain ⟨stuck, sent⟩ := State.judgeDampers_new (z := z) fits wunfitted wlimits expiry (zdamper d)
      (by rw [ztu, wtu, btu, atu]) (by rw [zpins, wpins, bpins, apins]) (by rw [zstore, wstore, bstore, astore])
    refine ⟨fun ho hc => ⟨by rw [State.finish_damper, stuck ho hc], fun f hf => ?_⟩, fun apart command => ?_,
      fun apart command => ?_⟩
    · subst hf
      have well : (w.fan f).state ≠ .faulted := by
        rw [wfans, bfans, State.fan_congr afans f, stopped f]; simp
      refine State.judgeDampers_faults fits wunfitted (by rw [wlimits]; exact ⟨ho, hc⟩) well ?_
      rw [hz]
      exact (State.KeepsFaulted.tryLeaveHold _).trans (.finish _)
    · rw [State.finish_command] at command
      rw [State.finish_damper, sent apart, command]
      rfl
    · rw [State.finish_command] at command
      rw [State.finish_damper, sent apart, command]
      rfl
  · have jzone : w.judgeDampers.zone.mode = .hold := by
      simp only [State.judgeDampers_frame, wzone, bzone, azone, mode]
    have leaves : w.judgeDampers.mayLeaveHold = true ↔ hold = false ∧ (judgeRecord s.store.bytes).isSome = true := by
      rw [State.mayLeaveHold_iff]
      simp only [State.judgeDampers_frame, State.recordValid, wzone, bzone, azone, wpins, bpins, apins, wstore, bstore, astore,
        mode, free, true_and, and_true]
    simp only [State.finish_frame]
    rw [hz, State.tryLeaveHold, if_congr leaves rfl rfl]
    split
    · refine State.leaveHold_quiet fun i => ?_
      simp only [State.judgeDampers_frame]
      rw [wmonitor, bmonitor, afiltered, quiet]
    · exact jzone

end Sys2Proof.Machine
end

section
/-! What the events leave of a fan's fault cause, its pulse count, its low-window count and its judge mark (R96, R104, R105). -/

namespace Sys2Proof.Machine

/-- R96, R104, R105: the cause and the pulses as they stood, the low-window count and the judge mark where they were clear. -/
def FanUnit.SameMarks (u v : FanUnit) : Prop :=
  v.cause = u.cause ∧ v.pulses = u.pulses ∧ (u.low = 0 → v.low = 0) ∧ (u.judge = false → v.judge = false)

theorem FanUnit.SameMarks.refl (u : FanUnit) : u.SameMarks u := ⟨rfl, rfl, id, id⟩

theorem FanUnit.SameMarks.trans {u v w : FanUnit} (h : u.SameMarks v) (k : v.SameMarks w) : u.SameMarks w := by
  obtain ⟨cause, pulses, low, judge⟩ := h
  obtain ⟨cause', pulses', low', judge'⟩ := k
  exact ⟨cause'.trans cause, pulses'.trans pulses, low' ∘ low, judge' ∘ judge⟩

/-- R105: a fan that passes to a state keeps the marks, but for those of RUNNING. -/
theorem FanUnit.SameMarks.enter (u : FanUnit) (st : FanState) : u.SameMarks (u.enter st) := by
  refine ⟨rfl, rfl, fun h => ?_, fun h => ?_⟩
  · simp [FanUnit.enter, h]
  · simp [FanUnit.enter, h]

/-- Every fan keeps its marks. -/
def State.SameMarks (s t : State) : Prop := ∀ g, (s.fan g).SameMarks (t.fan g)

theorem State.SameMarks.of_fans {s t : State} (h : t.fans = s.fans) : s.SameMarks t := fun g => by
  rw [State.fan_congr h g]
  exact .refl _

theorem State.SameMarks.refl (s : State) : s.SameMarks s := .of_fans rfl

theorem State.SameMarks.trans {s t u : State} (h : s.SameMarks t) (k : t.SameMarks u) : s.SameMarks u :=
  fun g => (h g).trans (k g)

theorem State.SameMarks.of_fan {s t : State} (f : Fan) (others : ∀ g, g ≠ f → t.fan g = s.fan g)
    (own : (s.fan f).SameMarks (t.fan f)) : s.SameMarks t := by
  intro g
  by_cases h : g = f
  · rw [h]; exact own
  · rw [others g h]; exact .refl _

theorem State.SameMarks.moveFan (s : State) (f : Fan) (st : FanState) : s.SameMarks (s.moveFan f st) :=
  .of_fan f (fun g hg => by simp [hg]) (by rw [State.moveFan_fan, if_pos rfl]; exact .enter _ st)

theorem State.SameMarks.setClaim (s : State) (f : Fan) (c : ClaimState) (b : Option Tu) : s.SameMarks (s.setClaim f c b) :=
  .of_fan f (fun g hg => by simp [hg]) (by rw [State.setClaim_fan, if_pos rfl]; exact ⟨rfl, rfl, id, id⟩)

theorem FanUnit.RanFrom.sameMarks {u v : FanUnit} (h : v.RanFrom u) : u.SameMarks v := by
  rcases h with rfl | ⟨-, rfl⟩
  · exact .refl _
  · exact ⟨rfl, rfl, id, id⟩

theorem State.SameMarks.takeEntry (s : State) (e : ClaimEntry) : s.SameMarks (s.takeEntry e) :=
  fun g => (s.takeEntry_fan e g).sameMarks

theorem State.SameMarks.startFan (s : State) (f : Fan) : s.SameMarks (s.startFan f) := by
  unfold State.startFan
  split
  · exact (State.SameMarks.setClaim s f _ _).trans (.moveFan _ f _)
  · exact .setClaim s f _ _

theorem State.SameMarks.decideClaim (s : State) (f : Fan) (e : ClaimEntry) : s.SameMarks (s.decideClaim f e) := by
  unfold State.decideClaim
  split
  · exact (State.SameMarks.takeEntry s e).trans (.startFan _ f)
  · exact (State.SameMarks.takeEntry s e).trans (.setClaim _ f _ _)

theorem State.SameMarks.giveClaim (s : State) (f : Fan) : s.SameMarks (s.giveClaim f) := by
  unfold State.giveClaim
  split
  · exact .decideClaim s f _
  · exact .of_fans rfl

theorem State.SameMarks.placeClaim (s : State) (f : Fan) : s.SameMarks (s.placeClaim f) := by
  have mark : s.SameMarks { s with fans := { s.fans with begun := s.fans.begun.set f false } } := fun g => .refl _
  unfold State.placeClaim
  simp only
  split
  · split
    · exact mark.trans (.giveClaim _ f)
    · exact mark
  · exact .refl s

theorem State.SameMarks.startClaim (s : State) (f : Fan) : s.SameMarks (s.startClaim f) := by
  refine .of_fan f (fun g hg => s.startClaim_fan_of_ne hg) ?_
  rw [State.startClaim_fan]
  split
  · exact .refl _
  · exact ⟨rfl, rfl, id, id⟩

theorem State.SameMarks.abortClaim (s : State) (f : Fan) : s.SameMarks (s.abortClaim f) := by
  obtain ⟨b, hb⟩ := s.abortClaim_fan f
  exact .of_fan f (fun g hg => s.abortClaim_fan_of_ne hg) (by rw [hb]; exact ⟨rfl, rfl, id, id⟩)

theorem State.SameMarks.reclaim (s : State) (f : Fan) : s.SameMarks (s.reclaim f) := by
  unfold State.reclaim
  split
  · exact (State.SameMarks.setClaim s f _ _).trans (.startClaim _ f)
  · exact .refl s

theorem State.SameMarks.leaveStopped (s : State) (f : Fan) : s.SameMarks (s.leaveStopped f) := by
  unfold State.leaveStopped
  split
  · exact (State.SameMarks.moveFan s f _).trans (.startClaim _ f)
  · exact .refl s
  · exact .moveFan s f _

theorem State.SameMarks.endRundown (s : State) (f : Fan) : s.SameMarks (s.endRundown f) := by
  have down : s.SameMarks (s.ranDown f) :=
    .of_fan f (fun g hg => s.ranDown_fan_of_ne hg) (by rw [s.ranDown_fan]; exact ⟨rfl, rfl, fun _ => rfl, fun _ => rfl⟩)
  rw [State.endRundown_eq]
  split
  · exact down.trans (.leaveStopped _ f)
  · exact down

theorem State.SameMarks.enterRundown (s : State) (f : Fan) : s.SameMarks (s.enterRundown f) := by
  have timer : ∀ x, s.SameMarks ((s.moveFan f .rundown).setFan f { (s.moveFan f .rundown).fan f with rundown := x }) := by
    refine fun x => (State.SameMarks.moveFan s f .rundown).trans (.of_fan f (fun g hg => by simp [hg]) ?_)
    rw [State.setFan_fan, if_pos rfl]
    exact ⟨rfl, rfl, id, id⟩
  unfold State.enterRundown
  simp only
  split
  · exact (timer _).trans (.endRundown _ f)
  · exact timer _

theorem State.SameMarks.answerNeed (s : State) (f : Fan) : s.SameMarks (s.answerNeed f) := by
  unfold State.answerNeed
  split
  · split
    · exact .leaveStopped s f
    · exact .refl s
  · split
    · exact .moveFan s f _
    · exact (State.SameMarks.abortClaim s f).trans (.moveFan _ f _)
    · exact .enterRundown s f
    · exact .enterRundown s f
    · exact .refl s

theorem State.SameMarks.stage (s : State) : s.SameMarks s.stage :=
  (show s.SameMarks { s with fans := { s.fans with
    staging := stagingFor s.availableCount s.fans.target s.fans.staging } } from fun _ => .refl _).trans
    ((State.SameMarks.answerNeed _ .A).trans (.answerNeed _ .B))

/-- R115: a damper that moves other than to STUCK leaves the marks. -/
theorem State.SameMarks.moveDamper (s : State) (d : DamperId) {x : DamperUnit}
    (h : x.state = .stuck → (s.damper d).state = .stuck) : s.SameMarks (s.moveDamper d x) := by
  refine State.SameMarks.trans (t := s.setDamper d x) (.of_fans rfl) ?_
  unfold State.moveDamper State.handDamper State.fanReachesOpen State.fanLeavesOpen
  cases d with
  | td k => exact .refl _
  | ed f =>
    simp only
    split
    · exact .refl _
    rename_i moved
    rw [if_neg fun hs => moved ((h hs).trans hs.symm)]
    split
    · split
      · exact (State.SameMarks.moveFan _ f _).trans (.startClaim _ f)
      · exact .refl _
    split
    · split
      · exact .enterRundown _ f
      · exact .enterRundown _ f
      · exact (State.SameMarks.abortClaim _ f).trans (.moveFan _ f _)
      · exact .refl _
    · exact .refl _

theorem State.driven_stuck {s : State} {d : DamperId} (h : (s.driven d).state = .stuck) : (s.damper d).state = .stuck := by
  by_contra hs
  exact State.driven_not_stuck hs h

theorem State.SameMarks.driveDamper (s : State) (d : DamperId) : s.SameMarks (s.driveDamper d) := by
  rw [State.driveDamper_eq]
  split
  · exact .refl s
  · exact .moveDamper s d State.driven_stuck

theorem State.SameMarks.finish (s : State) : s.SameMarks s.finish := by
  have places : ∀ t : State, t.SameMarks t.placeClaims := fun t => (State.SameMarks.placeClaim t .A).trans (.placeClaim _ .B)
  have row : ∀ (l : List Ix4) (t : State), t.SameMarks (l.foldl (fun t k => t.driveDamper (.td k)) t) := by
    intro l
    induction l with
    | nil => exact .refl
    | cons k l ih => exact fun t => (State.SameMarks.driveDamper t _).trans (ih _)
  have extracts : s.SameMarks s.driveExtracts :=
    (State.SameMarks.placeClaim s .A).trans ((State.SameMarks.driveDamper _ _).trans ((places _).trans (.driveDamper _ _)))
  rw [State.finish]
  exact extracts.trans ((row _ _).trans ((places _).trans fun g => by rw [State.serve_fan]; exact .refl _))

/-- R96: a fault leaves the other fan's marks. -/
theorem State.faultFan_sameMarks (s : State) {f g : Fan} (h : g ≠ f) (c : FanFault) :
    (s.fan g).SameMarks ((s.faultFan f c).fan g) := by
  unfold State.faultFan
  simp only
  split
  · exact .refl _
  · have same : ∀ t : State, t.fan g = s.fan g → (s.fan g).SameMarks (t.stage.fan g) := fun t ht => by
      rw [← ht]; exact State.SameMarks.stage t g
    exact same _ (by simp [h, State.abortClaim_fan_of_ne])

end Sys2Proof.Machine
end

section
/-! CLEAR FAULTS (R97, R114, R140). -/

namespace Sys2Proof.Machine

/-! ### The dampers settled -/

theorem State.settleStuck_stuck {s : State} {d : DamperId} (fitted : (s.damper d).fitted = true)
    (stuck : (s.damper d).state = .stuck) : s.settleStuck d = s.settleByLimits d := if_pos ⟨fitted, stuck⟩

theorem State.settleStuck_other {s : State} {d : DamperId} (h : (s.damper d).fitted = true → (s.damper d).state ≠ .stuck) :
    s.settleStuck d = s := if_neg fun ⟨fitted, stuck⟩ => h fitted stuck

theorem State.settleStuck_damper_of_ne (s : State) {d d' : DamperId} (h : d' ≠ d) :
    (s.settleStuck d).damper d' = s.damper d' := by
  unfold State.settleStuck
  split
  · rw [State.settleByLimits, State.moveDamper_damper, if_neg h]
  · rfl

/-- R114, R115: a damper that leaves STUCK moves no fan that is FAULTED. -/
theorem State.settleStuck_fan_of_faulted {s : State} {f : Fan} (h : (s.fan f).state = .faulted) (d : DamperId) :
    (s.settleStuck d).fan f = s.fan f := by
  unfold State.settleStuck
  split
  case isFalse => rfl
  rename_i stuck
  unfold State.settleByLimits State.moveDamper State.handDamper
  rw [stuck.2]
  cases d with
  | td k => rfl
  | ed g =>
    simp only
    split
    · rfl
    rename_i moved
    rw [if_neg fun hs => moved hs.symm]
    split
    · by_cases hg : f = g
      · subst hg
        rw [State.fanReachesOpen, if_neg (by rw [State.setDamper_fan, h]; simp)]
        rfl
      · exact State.fanReachesOpen_fan_of_ne _ hg
    · rw [if_neg (by simp)]
      rfl

@[simp] theorem State.settleStuck_frame (s : State) (d : DamperId) :
    (s.settleStuck d).tu = s.tu ∧ (s.settleStuck d).pins = s.pins ∧ (s.settleStuck d).store = s.store ∧
    (s.settleStuck d).view = s.view ∧ (s.settleStuck d).fume = s.fume ∧ (s.settleStuck d).monitor = s.monitor ∧
    (s.settleStuck d).zone = s.zone ∧ (s.settleStuck d).line = s.line ∧ (s.settleStuck d).rx = s.rx ∧
    (s.settleStuck d).forces = s.forces ∧ (s.settleStuck d).port = s.port ∧
    (s.settleStuck d).tx.urgent = s.tx.urgent := by
  unfold State.settleStuck
  split
  · rename_i stuck
    have urgent : (s.settleByLimits d).tx.urgent = s.tx.urgent := by
      unfold State.settleByLimits State.moveDamper
      by_cases hs : ((s.damper d).settled (s.effectiveCommand d) (s.pins.limits.get d) s.travelExpiry).state = .stuck
      · cases d with
        | td k => rfl
        | ed f =>
          simp only [State.handDamper]
          rw [if_pos (stuck.2.trans hs.symm)]
          rfl
      · exact (State.handDamper_tx _ d _ _ hs).2.1
    simp [urgent]
  · simp

/-- R114, step 1. -/
def State.settleAll (s : State) : State := DamperId.all.foldl State.settleStuck s

@[simp] theorem State.settleAll_frame (s : State) :
    s.settleAll.tu = s.tu ∧ s.settleAll.pins = s.pins ∧ s.settleAll.store = s.store ∧ s.settleAll.view = s.view ∧
    s.settleAll.fume = s.fume ∧ s.settleAll.monitor = s.monitor ∧ s.settleAll.zone = s.zone ∧ s.settleAll.line = s.line ∧
    s.settleAll.rx = s.rx ∧ s.settleAll.forces = s.forces ∧ s.settleAll.port = s.port ∧
    s.settleAll.tx.urgent = s.tx.urgent := by
  simp [State.settleAll, DamperId.all]

theorem State.settleAll_fan_of_faulted {s : State} {f : Fan} (h : (s.fan f).state = .faulted) :
    s.settleAll.fan f = s.fan f := by
  have row : ∀ (l : List DamperId) (t : State), t.fan f = s.fan f → (l.foldl State.settleStuck t).fan f = s.fan f := by
    intro l
    induction l with
    | nil => exact fun _ ht => ht
    | cons d l ih => exact fun t ht => ih _ ((State.settleStuck_fan_of_faulted (by rw [ht, h]) d).trans ht)
  exact row _ s rfl

/-- R114: each damper is settled from its record as it stood, at some command. -/
theorem State.settleAll_damper (s : State) (d : DamperId) :
    (((s.damper d).fitted = true → (s.damper d).state ≠ .stuck) → s.settleAll.damper d = s.damper d) ∧
    ((s.damper d).fitted = true → (s.damper d).state = .stuck → ∃ o,
      s.settleAll.damper d = (s.damper d).settled o (s.pins.limits.get d) s.travelExpiry) := by
  have apart : ∀ (m : List DamperId) (t : State), d ∉ m → (m.foldl State.settleStuck t).damper d = t.damper d ∧
      (m.foldl State.settleStuck t).tu = t.tu ∧ (m.foldl State.settleStuck t).pins = t.pins ∧
      (m.foldl State.settleStuck t).store = t.store := by
    intro m
    induction m with
    | nil => exact fun t _ => ⟨rfl, rfl, rfl, rfl⟩
    | cons a m ih =>
      intro t absent
      rw [List.mem_cons, not_or] at absent
      obtain ⟨own, tu, pins, store⟩ := ih (t.settleStuck a) absent.2
      exact ⟨own.trans (t.settleStuck_damper_of_ne absent.1), by simp [tu], by simp [pins], by simp [store]⟩
  have mem : d ∈ DamperId.all := by rcases d with (_ | _) | (_ | _ | _ | _) <;> simp [DamperId.all]
  obtain ⟨l, r, all⟩ := List.append_of_mem mem
  have nodup : (l ++ d :: r).Nodup := by rw [← all]; decide
  rw [List.nodup_append, List.nodup_cons] at nodup
  obtain ⟨own, tu, pins, store⟩ := apart l s fun h => nodup.2.2 d h d (List.mem_cons_self ..) rfl
  obtain ⟨ends, -⟩ := apart r ((l.foldl State.settleStuck s).settleStuck d) nodup.2.1.1
  have whole : s.settleAll.damper d = ((l.foldl State.settleStuck s).settleStuck d).damper d := by
    rw [State.settleAll, all, List.foldl_append, List.foldl_cons, ends]
  rw [whole]
  refine ⟨fun h => ?_, fun fitted stuck => ⟨(l.foldl State.settleStuck s).effectiveCommand d, ?_⟩⟩
  · rw [State.settleStuck_other (by rw [own]; exact h), own]
  · rw [State.settleStuck_stuck (by rw [own, fitted]) (by rw [own, stuck]), State.settleByLimits, State.moveDamper_damper,
      if_pos rfl, own, pins, State.travelExpiry, State.travelExpiry, tu, State.cfg_of_store store]

/-! ### The fans returned -/

/-- R97: a fan returned: not FAULTED, without a cause or a low window. -/
def FanUnit.Returned (u : FanUnit) : Prop := u.state ≠ .faulted ∧ u.cause = none ∧ u.low = 0

theorem FanUnit.Returned.of_marks {u v : FanUnit} (h : u.Returned) (well : v.state ≠ .faulted) (marks : u.SameMarks v) :
    v.Returned := by
  obtain ⟨-, cause, low⟩ := h
  obtain ⟨sameCause, -, sameLow, -⟩ := marks
  exact ⟨well, sameCause.trans cause, sameLow low⟩

/-- R97: both fans returned, before they are judged. -/
def State.returnBoth (s : State) : State := (s.returnFan .A).returnFan .B

theorem State.returnFan_fan (s : State) (f g : Fan) : (s.returnFan f).fan g =
    if g = f ∧ (s.fan f).state = .faulted then { s.fan f with state := .stopped, cause := none, claim := .none, low := 0 }
    else s.fan g := by
  unfold State.returnFan
  by_cases h : (s.fan f).state = .faulted
  · rw [if_pos h, State.setFan_fan]
    simp [h]
  · rw [if_neg h, if_neg fun k => h k.2]

theorem State.returnBoth_fan (s : State) (f : Fan) : s.returnBoth.fan f =
    if (s.fan f).state = .faulted then { s.fan f with state := .stopped, cause := none, claim := .none, low := 0 }
    else s.fan f := by
  unfold State.returnBoth
  cases f <;> simp [State.returnFan_fan]

theorem State.returnBoth_frame (s : State) : s.returnBoth.tu = s.tu ∧ s.returnBoth.pins = s.pins ∧
    s.returnBoth.store = s.store ∧ s.returnBoth.view = s.view ∧ s.returnBoth.fume = s.fume ∧
    s.returnBoth.monitor = s.monitor ∧ s.returnBoth.zone = s.zone ∧ s.returnBoth.line = s.line ∧
    s.returnBoth.rx = s.rx ∧ s.returnBoth.forces = s.forces ∧ s.returnBoth.port = s.port ∧ s.returnBoth.tx = s.tx ∧
    s.returnBoth.dampers = s.dampers := by
  unfold State.returnBoth State.returnFan
  (repeat' split) <;> exact ⟨rfl, rfl, rfl, rfl, rfl, rfl, rfl, rfl, rfl, rfl, rfl, rfl, rfl⟩

theorem State.returnBoth_well (s : State) (f : Fan) : (s.returnBoth.fan f).state ≠ .faulted := by
  rw [State.returnBoth_fan]
  split
  · simp
  · assumption

theorem State.returnFans_eq (s : State) :
    s.returnFans = (s.returnBoth.noticeFanFault s.fanFault).availabilityFrom s.availableCount := rfl

@[simp] theorem State.recompute_changeMark {s : State} (h : s.tx.changeMark = true) : s.recompute.tx.changeMark = true := by
  unfold State.recompute
  split
  · exact h
  · exact (State.notice_tx_kept _).2 h

theorem State.noticeFanFault_urgent (s : State) (b : Bool) : (s.noticeFanFault b).tx.urgent = s.tx.urgent := by
  unfold State.noticeFanFault
  split <;> simp

theorem State.noticeFanFault_changeMark {s : State} (b : Bool) (h : s.tx.changeMark = true) :
    (s.noticeFanFault b).tx.changeMark = true := by
  unfold State.noticeFanFault
  split
  · exact h
  · exact (State.notice_tx_kept _).2 h

/-- R88: a fan that is fitted and returns is one more available. -/
theorem State.returnBoth_available {s : State} {f : Fan} (faulted : (s.fan f).state = .faulted) (fitted : s.fanFitted f = true) :
    s.availableCount < s.returnBoth.availableCount := by
  obtain ⟨-, -, store, -⟩ := s.returnBoth_frame
  have same : ∀ g, s.returnBoth.fanFitted g = s.fanFitted g := fun g => by
    cases g <;> rw [State.fanFitted, State.fanFitted, State.cfg_of_store store]
  have others : s.available f.other = true → s.returnBoth.available f.other = true := by
    simp only [State.available, Bool.and_eq_true, same, decide_eq_true_eq]
    exact fun ⟨fit, _⟩ => ⟨fit, s.returnBoth_well _⟩
  have before : s.available f = false := by simp [State.available, faulted]
  have after : s.returnBoth.available f = true := by simp [State.available, same, fitted, s.returnBoth_well]
  rw [s.availableCount_eq f, s.returnBoth.availableCount_eq f, before, after]
  cases ho : s.available f.other with
  | false => simp
  | true => simp [others ho]

/-- R88, R89: the own record is what the fans and the zone give. -/
def State.Told (s : State) : Prop :=
  s.share.requested = true ∧ s.share.cls = s.classNow ∧ s.share.demand = s.demandNow

theorem State.Told.congr {s t : State} (h : s.Told) (share : t.share = s.share) (zone : t.zone = s.zone)
    (fume : t.fume = s.fume) (monitor : t.monitor = s.monitor) (store : t.store = s.store) (faults : s.SameFaults t) : t.Told := by
  obtain ⟨requested, cls, demand⟩ := h
  have cfg : t.cfg = s.cfg := State.cfg_of_store store
  obtain ⟨sameCls, sameDemand⟩ := State.demandNow_congr (s := s) (t := t) (by rw [zone]) (by rw [fume]) (by rw [monitor]) cfg
    (faults.fmaxEff cfg)
  exact ⟨by rw [share, requested], by rw [share, cls, sameCls], by rw [share, demand, sameDemand]⟩

theorem State.Told.fmaxChanged (s : State) : s.fmaxChanged.Told := by
  obtain ⟨cls, demand, -⟩ := s.requestPass.recompute_share
  have cfg : s.fmaxChanged.cfg = s.requestPass.cfg := State.cfg_of_store (by simp [State.requestPass])
  obtain ⟨sameCls, sameDemand⟩ := State.demandNow_congr (s := s.requestPass) (t := s.fmaxChanged) (by simp [State.requestPass])
    (by simp [State.requestPass]) (by simp [State.requestPass]) cfg
    (State.fmaxEff_of_fans (by simp [State.requestPass]) cfg)
  exact ⟨State.fmaxChanged_requested s, cls.trans sameCls.symm, demand.trans sameDemand.symm⟩

/-- R97, R106: what the fans' return leaves of the other blocks. -/
theorem State.returnFans_frame (s : State) : s.returnFans.tu = s.tu ∧ s.returnFans.pins = s.pins ∧
    s.returnFans.store = s.store ∧ s.returnFans.view = s.view ∧ s.returnFans.fume = s.fume ∧
    s.returnFans.monitor = s.monitor ∧ s.returnFans.zone = s.zone ∧ s.returnFans.line = s.line ∧
    s.returnFans.rx = s.rx ∧ s.returnFans.forces = s.forces ∧ s.returnFans.port = s.port ∧
    s.returnFans.dampers = s.dampers ∧ s.returnFans.tx.urgent = s.tx.urgent := by
  obtain ⟨tu, pins, store, view, fume, monitor, zone, line, rx, forces, port, tx, dampers⟩ := s.returnBoth_frame
  rw [State.returnFans_eq]
  unfold State.availabilityFrom
  split
  · simp [tu, pins, store, view, fume, monitor, zone, line, rx, forces, port, tx, dampers, State.noticeFanFault_urgent]
  · simp [tu, pins, store, view, fume, monitor, zone, line, rx, forces, port, tx, dampers, State.noticeFanFault_urgent,
      State.fmaxChanged, State.requestPass]

/-- R97, R106: the fans after their return and its judgement. -/
theorem State.returnFans_spec (s : State) :
    (∀ f, (s.returnFans.fan f).state ≠ .faulted) ∧
    (∀ f, (s.fan f).state = .faulted → (s.returnFans.fan f).Returned) ∧
    (∀ f, (s.fan f).state = .faulted → s.fanFitted f = true → s.returnFans.Told) ∧
    (∀ f, (s.fan f).state = .faulted → s.zone.mode ≠ .hold → s.zone.mode ≠ .listen → s.returnFans.tx.changeMark = true) := by
  obtain ⟨v, hv⟩ : ∃ v, v = s.returnBoth.noticeFanFault s.fanFault := ⟨_, rfl⟩
  have vfan : ∀ f, v.fan f = s.returnBoth.fan f := fun f => by rw [hv, State.noticeFanFault_fan]
  have vwell : ∀ f, (v.fan f).state ≠ .faulted := fun f => by rw [vfan]; exact s.returnBoth_well f
  have judged : s.returnFans = if v.availableCount = s.availableCount then v else v.fmaxChanged.stage := by
    rw [State.returnFans_eq, ← hv]; rfl
  have later : v.SameFaults s.returnFans ∧ v.SameMarks s.returnFans ∧
      (v.tx.changeMark = true → s.returnFans.tx.changeMark = true) := by
    rw [judged]
    split
    · exact ⟨.refl v, .refl v, id⟩
    · refine ⟨State.SameFaults.trans (t := v.fmaxChanged) (.of_states fun g => by simp) (.stage _),
        State.SameMarks.trans (t := v.fmaxChanged) (.of_fans (by simp)) (.stage _), fun h => ?_⟩
      simp only [State.stage_tx]
      exact State.recompute_changeMark h
  obtain ⟨faults, marks, mark⟩ := later
  have well : ∀ f, (s.returnFans.fan f).state ≠ .faulted := fun f h => vwell f ((faults f).mp h)
  refine ⟨well, fun f h => ?_, fun f h fitted => ?_, fun f h hold listen => mark ?_⟩
  · refine FanUnit.Returned.of_marks (u := v.fan f) ?_ (well f) (marks f)
    rw [vfan, State.returnBoth_fan, if_pos h]
    exact ⟨by simp, rfl, rfl⟩
  · have more := State.returnBoth_available h fitted
    have same : v.availableCount = s.returnBoth.availableCount :=
      State.SameFaults.availableCount (.of_states fun g => by rw [vfan]) (State.cfg_of_store (by rw [hv]; simp))
    rw [judged, if_neg (by omega)]
    exact (State.Told.fmaxChanged v).congr (by simp) (by simp) (by simp) (by simp) (by simp) (.stage _)
  · obtain ⟨-, -, -, -, -, -, zone, -⟩ := s.returnBoth_frame
    have before : s.fanFault = true := s.fanFault_iff.mpr ⟨f, h⟩
    have after : s.returnBoth.fanFault = false := by
      rw [← Bool.not_eq_true, State.fanFault_iff]
      exact fun ⟨g, hg⟩ => s.returnBoth_well g hg
    rw [hv, State.noticeFanFault, if_neg (by rw [before, after]; simp),
      State.notice_tx (by rw [zone]; exact hold) (by rw [zone]; exact listen)]

/-! ### Dampers that stick again -/

theorem State.stickAgain_stuck {s : State} {f : Fan} (h : (s.damper (.ed f)).state = .stuck) :
    s.stickAgain f = s.faultFan f .damper := if_pos h

theorem State.faultFan_tx_kept (s : State) (f : Fan) (c : FanFault) : (s.faultFan f c).tx.urgent = s.tx.urgent ∧
    (s.tx.changeMark = true → (s.faultFan f c).tx.changeMark = true) := by
  unfold State.faultFan
  simp only
  split
  · exact ⟨rfl, id⟩
  · refine ⟨?_, fun h => ?_⟩
    · simp [State.noticeFanFault_urgent, State.fmaxChanged, State.requestPass, State.moveFan, State.holdSetpoint, State.setFan,
        State.ite_fields]
    · simp only [State.stage_tx]
      refine State.noticeFanFault_changeMark _ (State.recompute_changeMark ?_)
      simp [State.requestPass, State.moveFan, State.holdSetpoint, State.setFan, State.ite_fields, h]

@[simp] theorem State.stickAgain_frame (s : State) (f : Fan) :
    (s.stickAgain f).tu = s.tu ∧ (s.stickAgain f).pins = s.pins ∧ (s.stickAgain f).store = s.store ∧
    (s.stickAgain f).view = s.view ∧ (s.stickAgain f).fume = s.fume ∧ (s.stickAgain f).monitor = s.monitor ∧
    (s.stickAgain f).zone = s.zone ∧ (s.stickAgain f).line = s.line ∧ (s.stickAgain f).rx = s.rx ∧
    (s.stickAgain f).forces = s.forces ∧ (s.stickAgain f).port = s.port ∧ (s.stickAgain f).dampers = s.dampers ∧
    (s.stickAgain f).tx.urgent = s.tx.urgent := by
  unfold State.stickAgain
  split
  · simp [(s.faultFan_tx_kept f .damper).1]
  · simp

theorem State.stickAgain_changeMark {s : State} (f : Fan) (h : s.tx.changeMark = true) : (s.stickAgain f).tx.changeMark = true := by
  unfold State.stickAgain
  split
  · exact (s.faultFan_tx_kept f .damper).2 h
  · exact h

theorem State.KeepsFaulted.stickAgain (s : State) (f : Fan) : s.KeepsFaulted (s.stickAgain f) := by
  unfold State.stickAgain
  split
  · exact .faultFan s f _
  · exact .refl s

theorem State.Told.stickAgain {s : State} (h : s.Told) (f : Fan) : (s.stickAgain f).Told := by
  unfold State.stickAgain
  split
  · by_cases well : (s.fan f).state = .faulted
    · rw [State.faultFan, if_pos well]
      exact h
    · exact State.faultFan_share well
  · exact h

/-- R97: a fan returned whose own damper is not STUCK stays so. -/
theorem State.stickAgain_returned {s : State} {f g : Fan} (h : (s.fan g).Returned)
    (free : g = f → (s.damper (.ed f)).state ≠ .stuck) : ((s.stickAgain f).fan g).Returned := by
  unfold State.stickAgain
  split
  · rename_i stuck
    have ne : g ≠ f := fun he => free he stuck
    exact h.of_marks (by rw [ne_eq, State.faultFan_faults, not_or]; exact ⟨ne, h.1⟩) (s.faultFan_sameMarks ne _)
  · exact h

theorem State.stickAgain_faults_of_ne {s : State} {f g : Fan} (ne : g ≠ f) :
    ((s.stickAgain f).fan g).state = .faulted ↔ (s.fan g).state = .faulted := by
  unfold State.stickAgain
  split
  · rw [State.faultFan_faults]
    exact or_iff_right ne
  · exact Iff.rfl

/-- R96: a fan FAULTED by its damper, without a claim. -/
def FanUnit.DamperFault (u : FanUnit) : Prop := u.state = .faulted ∧ u.cause = some .damper ∧ u.claim ≠ .waiting

theorem State.KeepsFaulted.damperFault {s t : State} (h : s.KeepsFaulted t) {f : Fan} (fault : (s.fan f).DamperFault) :
    (t.fan f).DamperFault := by
  rw [h f fault.1 fault.2.2]
  exact fault

theorem State.stickAgain_damperFault {s : State} {f : Fan} (stuck : (s.damper (.ed f)).state = .stuck)
    (well : (s.fan f).state ≠ .faulted) : ((s.stickAgain f).fan f).DamperFault := by
  rw [State.stickAgain_stuck stuck]
  refine ⟨s.faultFan_state f _, ?_, s.faultFan_idle well⟩
  rw [s.faultFan_fan f _ well]
  rfl

/-! ### The command -/

theorem State.clearAll_eq (s : State) :
    s.clearAll = ((s.settleAll.returnFans.stickAgain .A).stickAgain .B).clearDuplicate := rfl

/-- Settles O53: the dampers settled, the fans returned, and the faults of the dampers that stick again. -/
theorem clearFaultsReturnsFansAndDampers : Obligations.ClearFaultsReturnsFansAndDampers := by
  intro s u dt req both h hu hboth hears nodata
  have start : exec (.clearFaults dt req) s = .next (u.charNow.clearAll.respond 0x31 .ok []).finish := by
    rw [exec_clearFaults h, hu, State.request_heard_empty hears nodata]
  obtain ⟨v, hv⟩ : ∃ v, v = u.charNow := ⟨_, rfl⟩
  have vsame : v.tu = u.tu ∧ v.pins = u.pins ∧ v.store = u.store ∧ v.view = u.view ∧ v.fume = u.fume ∧
      v.monitor = u.monitor ∧ v.zone = u.zone ∧ v.line = u.line ∧ v.rx = u.rx ∧ v.forces = u.forces ∧ v.tx = u.tx ∧
      v.dampers = u.dampers ∧ v.fans = u.fans ∧ v.port = u.charNow.port := by
    rw [hv]; exact ⟨rfl, rfl, rfl, rfl, rfl, rfl, rfl, rfl, rfl, rfl, rfl, rfl, rfl, rfl⟩
  obtain ⟨vtu, vpins, vstore, vview, vfume, vmonitor, vzone, vline, vrx, vforces, vtx, vdampers, vfans, vport⟩ := vsame
  obtain ⟨a, ha⟩ : ∃ a, a = v.settleAll := ⟨_, rfl⟩
  obtain ⟨b, hb⟩ : ∃ b, b = a.returnFans := ⟨_, rfl⟩
  obtain ⟨c, hc⟩ : ∃ c, c = (b.stickAgain .A).stickAgain .B := ⟨_, rfl⟩
  obtain ⟨z, hz⟩ : ∃ z, z = v.clearAll.respond 0x31 .ok [] := ⟨_, rfl⟩
  rw [← hv, ← hz] at start
  have zeq : z = c.clearDuplicate.respond 0x31 .ok [] := by rw [hz, State.clearAll_eq, ← ha, ← hb, ← hc]
  have aframe := v.settleAll_frame
  rw [← ha] at aframe
  obtain ⟨atu, apins, astore, aview, afume, amonitor, azone, aline, arx, aforces, aport, aurgent⟩ := aframe
  have bframe := a.returnFans_frame
  rw [← hb] at bframe
  obtain ⟨btu, bpins, bstore, bview, bfume, bmonitor, bzone, bline, brx, bforces, bport, bdampers, burgent⟩ := bframe
  have cframe : c.tu = b.tu ∧ c.pins = b.pins ∧ c.store = b.store ∧ c.view = b.view ∧ c.fume = b.fume ∧
      c.monitor = b.monitor ∧ c.zone = b.zone ∧ c.line = b.line ∧ c.rx = b.rx ∧ c.forces = b.forces ∧ c.port = b.port ∧
      c.dampers = b.dampers ∧ c.tx.urgent = b.tx.urgent := by rw [hc]; simp
  obtain ⟨ctu, cpins, cstore, cview, cfume, cmonitor, czone, cline, crx, cforces, cport, cdampers, curgent⟩ := cframe
  have zframe : z.tu = c.tu ∧ z.pins = c.pins ∧ z.store = c.store ∧ z.view = c.view ∧ z.fume = c.fume ∧
      z.monitor = c.monitor ∧ z.zone = c.zone ∧ z.line = c.line ∧ z.forces = c.forces ∧ z.tx = c.tx ∧ z.dampers = c.dampers ∧
      z.fans = c.fans ∧ z.share = c.share ∧ z.rx.duplicate = false := by
    rw [zeq]; exact ⟨rfl, rfl, rfl, rfl, rfl, rfl, rfl, rfl, rfl, rfl, rfl, rfl, rfl, rfl⟩
  obtain ⟨ztu, zpins, zstore, zview, zfume, zmonitor, zzone, zline, zforces, ztx, zdampers, zfans, zshare, zrx⟩ := zframe
  have port : z.port = u.answering 0x31 .ok [] := by
    have tu : c.clearDuplicate.port = u.charNow.port := by
      rw [← vport, ← aport, ← bport, ← cport]; rfl
    rw [zeq, State.respond_port, tu]
    rfl
  have afan : ∀ f, (u.fan f).state = .faulted → a.fan f = u.fan f := fun f hf => by
    have same : v.fan f = u.fan f := State.fan_congr vfans f
    rw [ha, State.settleAll_fan_of_faulted (by rw [same, hf]), same]
  have zdamper : ∀ d, z.damper d = a.damper d := fun d =>
    State.damper_congr (zdampers.trans (cdampers.trans bdampers)) d
  have bdamper : ∀ d, b.damper d = a.damper d := State.damper_congr bdampers
  have vdamper : ∀ d, v.damper d = u.damper d := State.damper_congr vdampers
  have zfan : ∀ f, z.fan f = c.fan f := State.fan_congr zfans
  have ztu' : z.tu = v.tu := by rw [ztu, ctu, btu, atu]
  have zpins' : z.pins = v.pins := by rw [zpins, cpins, bpins, apins]
  have zstore' : z.store = v.store := by rw [zstore, cstore, bstore, astore]
  have untouched : ∀ d, ((u.damper d).fitted = true → (u.damper d).state ≠ .stuck) → a.damper d = u.damper d := fun d free => by
    rw [ha, (v.settleAll_damper d).1 (by rw [vdamper]; exact free), vdamper]
  have settled : ∀ d, (u.damper d).fitted = true → (u.damper d).state = .stuck → ∃ o,
      a.damper d = (u.damper d).settled o (u.pins.limits.get d) v.travelExpiry := fun d fitted stuck => by
    obtain ⟨o, ho⟩ := (v.settleAll_damper d).2 (by rw [vdamper, fitted]) (by rw [vdamper, stuck])
    exact ⟨o, by rw [ha, ho, vdamper, vpins]⟩
  have sticks : ∀ d, (u.damper d).fitted = true → (u.damper d).state = .stuck → both d →
      a.damper d = (u.damper d).stuckFor .bothLimits := fun d fitted stuck bd => by
    obtain ⟨o, ho⟩ := settled d fitted stuck
    rw [ho, DamperUnit.settled_both _ ((hboth d).mp bd)]
  have sent : ∀ d, (u.damper d).fitted = true → (u.damper d).state = .stuck → ¬ both d → ∃ o,
      a.damper d = .sentTo (u.pins.limits.get d) v.travelExpiry o := fun d fitted stuck nb => by
    obtain ⟨o, ho⟩ := settled d fitted stuck
    obtain ⟨o', ho'⟩ := DamperUnit.settled_eq_sentTo fitted (fun hl => nb ((hboth d).mpr hl)) o v.travelExpiry
    exact ⟨o', ho.trans ho'⟩
  have goes : ∀ d, (u.damper d).fitted = true → (u.damper d).state = .stuck → ¬ both d →
      z.driven d = .sentTo (u.pins.limits.get d) v.travelExpiry (z.effectiveCommand d) := fun d fitted stuck nb => by
    obtain ⟨o, ho⟩ := sent d fitted stuck nb
    exact State.driven_sentTo ((zdamper d).trans ho) (by rw [zpins', vpins])
      (by rw [State.travelExpiry, State.travelExpiry, ztu', State.cfg_of_store zstore']) fun hl => nb ((hboth d).mpr hl)
  obtain ⟨bwell, breturned, btold, bmark⟩ := a.returnFans_spec
  rw [← hb] at bwell breturned btold bmark
  refine ⟨_, start, by simp [port], by simp [zrx], fun f hf => ⟨fun free => ?_, fun stuck bf => ?_⟩,
    fun d fitted stuck => ⟨fun bd => ?_, fun nb => ?_⟩, fun k fitted stuck ho hc => ?_,
    fun f hf => ⟨fun fitted => ?_, fun hold listen => ?_⟩, ?_, ?_, ?_, ?_, ?_, ?_, ?_, ?_, ?_⟩
  · have loose : (a.damper (.ed f)).state ≠ .stuck := by
      by_cases stuck : (u.damper (.ed f)).state = .stuck
      · obtain ⟨fitted, nb⟩ := free.resolve_left (not_not.mpr stuck)
        obtain ⟨o, ho⟩ := sent _ fitted stuck nb
        rw [ho]
        exact (DamperUnit.sentTo_follows _ _ _).2.1
      · rw [untouched _ fun _ => stuck]
        exact stuck
    have first : ((b.stickAgain .A).fan f).Returned :=
      State.stickAgain_returned (breturned f (by rw [afan f hf, hf])) fun e => by rw [bdamper, ← e]; exact loose
    have second : (c.fan f).Returned := by
      rw [hc]
      refine State.stickAgain_returned first fun e => ?_
      rw [State.damper_congr (s := b) (by simp) _, bdamper, ← e]
      exact loose
    rw [← zfan] at second
    exact second.of_marks (fun k => second.1 ((State.SameFaults.finish z f).mp k)) (State.SameMarks.finish z f)
  · have again : (a.damper (.ed f)).state = .stuck := by
      by_cases fitted : (u.damper (.ed f)).fitted = true
      · rw [sticks _ fitted stuck bf]; rfl
      · rw [untouched _ fun k => absurd k fitted, stuck]
    have fault : (c.fan f).DamperFault := by
      rw [hc]
      cases f with
      | A =>
        exact (State.KeepsFaulted.stickAgain _ .B).damperFault
          (State.stickAgain_damperFault (by rw [bdamper, again]) (bwell .A))
      | B =>
        exact State.stickAgain_damperFault (by rw [State.damper_congr (s := b) (by simp) _, bdamper, again])
          (by rw [ne_eq, State.stickAgain_faults_of_ne (by simp)]; exact bwell .B)
    rw [← zfan] at fault
    have ends := (State.KeepsFaulted.finish z).damperFault fault
    exact ⟨ends.1, ends.2.1⟩
  · have own := (zdamper d).trans (sticks d fitted stuck bd)
    rw [State.finish_damper, State.driven_of_stuck (by rw [own]; rfl), own]
    exact ⟨rfl, rfl⟩
  · obtain ⟨-, loose, reason, -⟩ := DamperUnit.sentTo_follows (u.pins.limits.get d) v.travelExpiry (z.effectiveCommand d)
    rw [State.finish_damper, goes d fitted stuck nb]
    exact ⟨loose, reason⟩
  · have nb : ¬ both (.td k) := fun bd => by
      have := ((hboth _).mp bd).2
      rw [hc] at this
      cases this
    have own := (zdamper (.td k)).trans (sent _ fitted stuck nb).choose_spec
    have command : z.effectiveCommand (.td k) = u.effectiveCommand (.td k) :=
      State.effectiveCommand_td_congr (by rw [zforces, cforces, bforces, aforces, vforces])
        (by rw [zzone, czone, bzone, azone, vzone]) (by rw [zmonitor, cmonitor, bmonitor, amonitor, vmonitor])
        (State.preAlarmHit_congr (by rw [zview, cview, bview, aview, vview])) (State.cfg_of_store (zstore'.trans vstore)) k
        (by rw [own, (DamperUnit.sentTo_follows _ _ _).1, fitted])
    rw [State.finish_damper, goes _ fitted stuck nb, command]
    cases u.effectiveCommand (.td k) <;> simp [DamperUnit.sentTo, ho, hc]
  · have told : z.Told := by
      have afitted : a.fanFitted f = true := by
        cases f <;> rw [State.fanFitted, State.cfg_of_store (astore.trans vstore)] <;> exact fitted
      have b2 := ((btold f (by rw [afan f hf, hf]) afitted).stickAgain .A).stickAgain .B
      rw [← hc] at b2
      exact b2.congr zshare zzone zfume zmonitor zstore (.of_states fun g => by rw [zfan])
    obtain ⟨requested, cls, demand⟩ := told
    have cfg : z.finish.cfg = z.cfg := State.cfg_of_store (by simp)
    obtain ⟨sameCls, sameDemand⟩ := State.demandNow_congr (s := z) (t := z.finish) (by simp) (by simp) (by simp) cfg
      ((State.SameFaults.finish z).fmaxEff cfg)
    rw [sameCls, sameDemand]
    exact ⟨by simp [cls], by simp [demand], State.finish_of_requested requested⟩
  · have mark : c.tx.changeMark = true := by
      rw [hc]
      exact State.stickAgain_changeMark _ (State.stickAgain_changeMark _ (bmark f (by rw [afan f hf, hf])
        (by rw [azone, vzone]; exact hold) (by rw [azone, vzone]; exact listen)))
    simp [ztx, mark]
  · simp [zzone, czone, bzone, azone, vzone]
  · simp [zmonitor, cmonitor, bmonitor, amonitor, vmonitor]
  · simp [zforces, cforces, bforces, aforces, vforces]
  · simp [zview, cview, bview, aview, vview]
  · simp [zfume, cfume, bfume, afume, vfume]
  · simp [zline, cline, bline, aline, vline]
  · simp [zpins', vpins]
  · simp [zstore', vstore]
  · simp [ztx, curgent, burgent, aurgent, vtx]

end Sys2Proof.Machine
end

section
/-! Events that change the record in force: what their operations leave of the Start List, of the pass requests and of the fans
(R87, R98, R104). -/

namespace Sys2Proof.Machine

/-! ### The Start List stands until claims are placed -/

@[simp] theorem State.setClaim_starts (s : State) (f : Fan) (c : ClaimState) (b : Option Tu) :
    (s.setClaim f c b).fans.starts = s.fans.starts := rfl

@[simp] theorem State.startClaim_starts (s : State) (f : Fan) : (s.startClaim f).fans.starts = s.fans.starts := by
  unfold State.startClaim
  split <;> rfl

@[simp] theorem State.abortClaim_starts (s : State) (f : Fan) : (s.abortClaim f).fans.starts = s.fans.starts := by
  unfold State.abortClaim
  split <;> rfl

@[simp] theorem State.leaveStopped_starts (s : State) (f : Fan) : (s.leaveStopped f).fans.starts = s.fans.starts := by
  unfold State.leaveStopped
  split <;> simp

@[simp] theorem State.endRundown_starts (s : State) (f : Fan) : (s.endRundown f).fans.starts = s.fans.starts := by
  rw [State.endRundown_eq]
  split <;> simp

@[simp] theorem State.enterRundown_starts (s : State) (f : Fan) : (s.enterRundown f).fans.starts = s.fans.starts := by
  unfold State.enterRundown
  simp only
  split <;> simp [State.setFan]

@[simp] theorem State.answerNeed_starts (s : State) (f : Fan) : (s.answerNeed f).fans.starts = s.fans.starts := by
  unfold State.answerNeed
  (repeat' split) <;> simp

@[simp] theorem State.stage_starts (s : State) : s.stage.fans.starts = s.fans.starts := by
  simp [State.stage]

@[simp] theorem State.faultFan_starts (s : State) (f : Fan) (c : FanFault) : (s.faultFan f c).fans.starts = s.fans.starts := by
  unfold State.faultFan
  simp only
  split
  · rfl
  · simp [State.setFan]

@[simp] theorem State.moveDamper_starts (s : State) (d : DamperId) (x : DamperUnit) :
    (s.moveDamper d x).fans.starts = s.fans.starts := by
  unfold State.moveDamper State.handDamper State.fanReachesOpen State.fanLeavesOpen
  (repeat' split) <;> simp [State.setDamper]

@[simp] theorem State.driveDamper_starts (s : State) (d : DamperId) : (s.driveDamper d).fans.starts = s.fans.starts := by
  rw [State.driveDamper_eq]
  split <;> simp

@[simp] theorem State.reclaim_starts (s : State) (f : Fan) : (s.reclaim f).fans.starts = s.fans.starts := by
  unfold State.reclaim
  split <;> simp

@[simp] theorem State.enterMode_starts (s : State) (m : Mode) : (s.enterMode m).fans.starts = s.fans.starts := by
  rw [State.enterMode_eq]
  split <;> simp

/-! ### Operations that place no claim -/

/-- R104, R105: a fan with no pulse counted and no judgement to come. -/
def FanUnit.Unproved (u : FanUnit) : Prop := u.pulses = 0 ∧ u.judge = false

theorem FanUnit.Unproved.of_marks {u v : FanUnit} (h : u.Unproved) (marks : u.SameMarks v) : v.Unproved := by
  obtain ⟨-, pulses, -, judge⟩ := marks
  exact ⟨pulses.trans h.1, judge h.2⟩

/-- What an operation that places no claim leaves: the Start List, a pass request, and the fans without a proof to come. -/
structure State.Unplaced (s t : State) : Prop where
  starts : t.fans.starts = s.fans.starts
  requested : s.share.requested = true → t.share.requested = true
  unproved : ∀ f, (s.fan f).Unproved → (t.fan f).Unproved

theorem State.Unplaced.refl (s : State) : s.Unplaced s := ⟨rfl, id, fun _ => id⟩

theorem State.Unplaced.trans {s t u : State} (h : s.Unplaced t) (k : t.Unplaced u) : s.Unplaced u :=
  ⟨k.starts.trans h.starts, k.requested ∘ h.requested, fun f => k.unproved f ∘ h.unproved f⟩

theorem State.Unplaced.of_marks {s t : State} (starts : t.fans.starts = s.fans.starts)
    (requested : s.share.requested = true → t.share.requested = true) (marks : s.SameMarks t) : s.Unplaced t :=
  ⟨starts, requested, fun f h => h.of_marks (marks f)⟩

theorem State.Unplaced.of_fans {s t : State} (fans : t.fans = s.fans)
    (requested : s.share.requested = true → t.share.requested = true) : s.Unplaced t :=
  .of_marks (by rw [fans]) requested (.of_fans fans)

theorem State.Unplaced.faultFan (s : State) (f : Fan) (c : FanFault) : s.Unplaced (s.faultFan f c) := by
  by_cases h : (s.fan f).state = .faulted
  · rw [State.faultFan, if_pos h]
    exact .refl s
  · refine ⟨s.faultFan_starts f c, fun _ => (State.faultFan_share h).1, fun g hg => ?_⟩
    by_cases same : g = f
    · subst same
      rw [s.faultFan_fan g c h]
      exact ⟨hg.1, by simp [FanUnit.enter]⟩
    · exact hg.of_marks (s.faultFan_sameMarks same c)

theorem State.Unplaced.moveDamper (s : State) (d : DamperId) (x : DamperUnit) : s.Unplaced (s.moveDamper d x) := by
  by_cases free : x.state = .stuck → (s.damper d).state = .stuck
  · refine .of_marks (by simp) (fun h => ?_) (.moveDamper s d free)
    by_cases stuck : x.state = .stuck
    · rw [State.moveDamper_of_state (stuck.trans (free stuck).symm)]
      exact h
    · rw [State.moveDamper, State.handDamper_share _ _ _ _ stuck]
      exact h
  · rw [Classical.not_imp] at free
    cases d with
    | td k => exact .of_fans rfl id
    | ed f =>
      rw [State.moveDamper_stuck free.2 free.1]
      exact State.Unplaced.trans (t := s.setDamper (.ed f) x) (.of_fans rfl id) (.faultFan _ f _)

theorem State.Unplaced.driveDamper (s : State) (d : DamperId) : s.Unplaced (s.driveDamper d) :=
  .of_marks (by simp) (by simp) (.driveDamper s d)

theorem State.Unplaced.judgeDamper (s : State) (d : DamperId) : s.Unplaced (s.judgeDamper d) := by
  unfold State.judgeDamper
  split
  · split
    · exact .refl s
    · exact State.Unplaced.trans (t := s.setDamper d { s.damper d with fitted := true }) (.of_fans rfl id)
        ((State.Unplaced.moveDamper _ d _).trans (.driveDamper _ d))
  · exact .moveDamper s d _

theorem State.Unplaced.judgeDampers (s : State) : s.Unplaced s.judgeDampers := by
  have row : ∀ (l : List DamperId) (t : State), t.Unplaced (l.foldl State.judgeDamper t) := by
    intro l
    induction l with
    | nil => exact .refl
    | cons d l ih => exact fun t => (State.Unplaced.judgeDamper t d).trans (ih _)
  exact row _ s

theorem State.Unplaced.recompute (s : State) : s.Unplaced s.recompute :=
  .of_fans (by simp) State.recompute_requested

theorem State.Unplaced.reclaim (s : State) (f : Fan) : s.Unplaced (s.reclaim f) :=
  .of_marks (by simp) (by simp) (.reclaim s f)

theorem State.Unplaced.enterMode (s : State) (m : Mode) : s.Unplaced (s.enterMode m) := by
  have mode : s.Unplaced (s.setModeTimed m).recompute :=
    State.Unplaced.trans (t := s.setModeTimed m) (.of_fans (by simp) (by simp)) (.recompute _)
  rw [State.enterMode_eq]
  split
  · exact mode.trans ((State.Unplaced.reclaim _ .A).trans (.reclaim _ .B))
  · exact mode

theorem State.Unplaced.declare (s : State) (c : FireCause) : s.Unplaced (s.declare c) := by
  refine State.Unplaced.trans (t := { s with monitor := { s.monitor with
    decl := .declared, cause := some c, confirm := none } }) (.of_fans rfl id) ((State.Unplaced.enterMode _ .fire).trans ?_)
  unfold State.declare
  simp only
  split
  · exact .of_fans (by simp [State.queueUrgent]) (by simp [State.queueUrgent])
  · exact .of_fans rfl id

theorem State.Unplaced.tryLeaveHold (s : State) : s.Unplaced s.tryLeaveHold := by
  have judge : ∀ t : State, t.Unplaced t.judgeAtStart := by
    intro t
    rcases t.judgeAtStart_cases with ⟨c, -, h⟩ | ⟨-, -, h⟩ | ⟨-, -, h⟩ <;> rw [h]
    · exact .declare t c
    · refine State.Unplaced.of_fans (by simp) fun h => ?_
      simp only [State.enterPreAlarm, State.notice_frame]
      exact State.recompute_requested h
    · exact .refl t
  unfold State.tryLeaveHold
  split
  · rw [State.leaveHold, State.startEvaluation_eq]
    exact (State.Unplaced.enterMode s .listen).trans
      (State.Unplaced.trans (t := (s.enterMode .listen).evaluated) (.of_fans rfl id) (judge _))
  · exact .refl s

/-! ### The claims placed as an event ends -/

/-- R99, R103: the Start List after claims are placed: as it stood outside isolation, and with own entries of this moment. -/
structure State.Placed (s t : State) : Prop where
  tu : t.tu = s.tu
  store : t.store = s.store
  line : t.line = s.line
  alone : s.line.isolated = false → t.fans.starts = s.fans.starts
  own : ∀ e ∈ t.fans.starts, e ∈ s.fans.starts ∨ e.origin = s.cfg.station ∧ e.arrival = s.tu

theorem State.Placed.of_starts {s t : State} (tu : t.tu = s.tu) (store : t.store = s.store) (line : t.line = s.line)
    (starts : t.fans.starts = s.fans.starts) : s.Placed t :=
  ⟨tu, store, line, fun _ => starts, fun e he => .inl (starts ▸ he)⟩

theorem State.Placed.trans {s t u : State} (h : s.Placed t) (k : t.Placed u) : s.Placed u where
  tu := k.tu.trans h.tu
  store := k.store.trans h.store
  line := k.line.trans h.line
  alone free := (k.alone (by rw [h.line, free])).trans (h.alone free)
  own e he := by
    rcases k.own e he with old | new
    · exact h.own e old
    · rw [State.cfg_of_store h.store, h.tu] at new
      exact .inr new

theorem State.takeEntry_subset (s : State) (e : ClaimEntry) : ∀ x ∈ (s.takeEntry e).fans.starts, x ∈ s.fans.starts ∨ x = e := by
  have kept : ∀ x ∈ s.fans.starts.filter fun x => !e.sameClaim x, x ∈ s.fans.starts := fun x hx => (List.mem_filter.mp hx).1
  intro x hx
  rw [s.takeEntry_starts e] at hx
  simp only at hx
  split at hx
  · split at hx
    · rcases List.mem_append.mp hx with h | h
      · exact .inl (kept x h)
      · exact .inr (List.mem_singleton.mp h)
    · rcases List.mem_append.mp hx with h | h
      · exact .inl (kept x (List.mem_of_mem_tail h))
      · exact .inr (List.mem_singleton.mp h)
  · exact .inl (kept x hx)

theorem State.decideClaim_starts (s : State) (f : Fan) (e : ClaimEntry) :
    (s.decideClaim f e).fans.starts = (s.takeEntry e).fans.starts := by
  unfold State.decideClaim State.startFan State.enterBackoff
  (repeat' split) <;> simp

theorem State.Placed.giveClaim (s : State) (f : Fan) : s.Placed (s.giveClaim f) := by
  refine ⟨by simp, by simp, by simp, fun free => ?_, fun e he => ?_⟩ <;> unfold State.giveClaim at *
  · rw [if_neg (by simp [free])]
  · split at he
    · rw [State.localClaim, State.decideClaim_starts] at he
      exact (s.takeEntry_subset _ e he).imp_right fun h => by rw [h]; exact ⟨rfl, rfl⟩
    · exact .inl he

theorem State.Placed.placeClaim (s : State) (f : Fan) : s.Placed (s.placeClaim f) := by
  have mark : s.Placed { s with fans := { s.fans with begun := s.fans.begun.set f false } } := .of_starts rfl rfl rfl rfl
  unfold State.placeClaim
  simp only
  split
  · split
    · exact mark.trans (.giveClaim _ f)
    · exact mark
  · exact .of_starts rfl rfl rfl rfl

theorem State.Placed.driveDamper (s : State) (d : DamperId) : s.Placed (s.driveDamper d) :=
  .of_starts (by simp) (by simp) (by simp) (by simp)

theorem State.Placed.finish (s : State) : s.Placed s.finish := by
  have places : ∀ t : State, t.Placed t.placeClaims := fun t => (State.Placed.placeClaim t .A).trans (.placeClaim _ .B)
  have row : ∀ (l : List Ix4) (t : State), t.Placed (l.foldl (fun t k => t.driveDamper (.td k)) t) := by
    intro l
    induction l with
    | nil => exact fun t => .of_starts rfl rfl rfl rfl
    | cons k l ih => exact fun t => (State.Placed.driveDamper t _).trans (ih _)
  have extracts : s.Placed s.driveExtracts :=
    (State.Placed.placeClaim s .A).trans ((State.Placed.driveDamper _ _).trans ((places _).trans (.driveDamper _ _)))
  have serve : ∀ t : State, t.Placed t.serve := fun t => .of_starts (by simp) (by simp) (by simp) (by simp)
  exact extracts.trans ((row Ix4.all _).trans ((places _).trans (serve _)))

/-! ### Fans that are not fitted -/

/-- R87: a fan that is not fitted, at rest, whose damper no record fits. -/
structure State.Retired (s : State) (f : Fan) : Prop where
  fitted : s.fanFitted f = false
  fits : s.fits (.ed f) = false
  stopped : (s.fan f).state = .stopped
  cause : (s.fan f).cause = none
  claim : (s.fan f).claim ≠ .waiting

theorem State.Retired.congr {s t : State} {f : Fan} (h : s.Retired f) (store : t.store = s.store) (fan : t.fan f = s.fan f) :
    t.Retired f := by
  obtain ⟨fitted, fits, stopped, cause, claim⟩ := h
  refine ⟨?_, (State.fits_congr store _).trans fits, by rw [fan, stopped], by rw [fan, cause], by rw [fan]; exact claim⟩
  rw [← fitted]
  cases f <;> rw [State.fanFitted, State.fanFitted, State.cfg_of_store store]

theorem State.Retired.answerNeed {s : State} {f : Fan} (h : s.Retired f) (g : Fan) : (s.answerNeed g).Retired f := by
  refine h.congr (by simp) ?_
  by_cases hg : f = g
  · subst hg
    have unneeded : s.needed f = false := by simp [State.needed, State.available, h.fitted]
    rw [State.answerNeed, if_neg (by simp [unneeded]), h.stopped]
  · exact s.answerNeed_fan_of_ne hg

theorem State.Retired.stage {s : State} {f : Fan} (h : s.Retired f) : s.stage.Retired f :=
  (State.Retired.answerNeed (State.Retired.answerNeed (s := { s with fans := { s.fans with
    staging := stagingFor s.availableCount s.fans.target s.fans.staging } }) (h.congr rfl rfl) .A) .B)

theorem State.Retired.faultFan {s : State} {f g : Fan} (h : s.Retired f) (hg : f ≠ g) (c : FanFault) :
    (s.faultFan g c).Retired f := by
  unfold State.faultFan
  simp only
  split
  · exact h
  · exact (h.congr (by simp) (by simp [hg, State.abortClaim_fan_of_ne])).stage

/-- R87, R115: only a damper of its own that becomes STUCK moves a fan that is not fitted. -/
theorem State.Retired.moveDamper {s : State} {f : Fan} (h : s.Retired f) {d : DamperId} {x : DamperUnit}
    (own : d = .ed f → x.state = .stuck → (s.damper d).state = .stuck) : (s.moveDamper d x).Retired f := by
  have set : (s.setDamper d x).Retired f := h.congr rfl rfl
  unfold State.moveDamper State.handDamper
  cases d with
  | td k => exact set
  | ed g =>
    simp only
    split
    · exact set
    rename_i moved
    split
    · rename_i stuck
      exact set.faultFan (fun he => moved ((own (by rw [he]) stuck).trans stuck.symm)) _
    split
    · refine set.congr (by simp) ?_
      by_cases hg : f = g
      · subst hg
        rw [State.fanReachesOpen, if_neg (by rw [set.stopped]; simp)]
      · exact State.fanReachesOpen_fan_of_ne _ hg
    split
    · refine set.congr (by simp) ?_
      by_cases hg : f = g
      · subst hg
        rw [State.fanLeavesOpen_of_unwanted _ _ (by rw [set.stopped]; rfl)]
      · exact State.fanLeavesOpen_fan_of_ne _ hg
    · exact set

theorem State.Retired.driveDamper {s : State} {f : Fan} (h : s.Retired f) (d : DamperId) : (s.driveDamper d).Retired f := by
  rw [State.driveDamper_eq]
  split
  · exact h
  · exact h.moveDamper fun _ => State.driven_stuck

theorem State.Retired.judgeDamper {s : State} {f : Fan} (h : s.Retired f) (d : DamperId) : (s.judgeDamper d).Retired f := by
  by_cases own : d = .ed f
  · rw [own, State.judgeDamper_unfit h.fits]
    exact h.moveDamper fun _ hs => by cases hs
  · unfold State.judgeDamper
    split
    · split
      · exact h
      · have fit : (s.setDamper d { s.damper d with fitted := true }).Retired f := h.congr rfl rfl
        exact (fit.moveDamper fun he => absurd he own).driveDamper d
    · exact h.moveDamper fun he => absurd he own

theorem State.Retired.judgeDampers {s : State} {f : Fan} (h : s.Retired f) : s.judgeDampers.Retired f := by
  have row : ∀ (l : List DamperId) (t : State), t.Retired f → (l.foldl State.judgeDamper t).Retired f := by
    intro l
    induction l with
    | nil => exact fun _ => id
    | cons d l ih => exact fun t ht => ih _ (ht.judgeDamper d)
  exact row _ s h

theorem State.Retired.reclaim {s : State} {f : Fan} (h : s.Retired f) (g : Fan) : (s.reclaim g).Retired f := by
  refine h.congr (by simp) ?_
  unfold State.reclaim
  split
  · rename_i again
    have hg : f ≠ g := fun he => by rw [← he, h.stopped] at again; simp at again
    simp [hg, State.startClaim_fan_of_ne]
  · rfl

theorem State.Retired.enterMode {s : State} {f : Fan} (h : s.Retired f) (m : Mode) : (s.enterMode m).Retired f := by
  have mode : (s.setModeTimed m).recompute.Retired f := h.congr (by simp) (State.fan_congr (by simp) f)
  rw [State.enterMode_eq]
  split
  · exact (mode.reclaim .A).reclaim .B
  · exact mode

theorem State.Retired.declare {s : State} {f : Fan} (h : s.Retired f) (c : FireCause) : (s.declare c).Retired f := by
  have entered := State.Retired.enterMode (s := { s with monitor := { s.monitor with
    decl := .declared, cause := some c, confirm := none } }) (h.congr rfl rfl) .fire
  unfold State.declare
  simp only
  generalize State.enterMode _ .fire = w at entered ⊢
  have queued : ∀ x, (w.queueUrgent x).Retired f := fun _ => entered.congr rfl rfl
  have noticed : ∀ x, (w.queueUrgent x).notice.Retired f := fun x =>
    (queued x).congr (by simp) (State.fan_congr (by simp) f)
  split
  · exact noticed _
  · exact queued _

theorem State.Retired.tryLeaveHold {s : State} {f : Fan} (h : s.Retired f) : s.tryLeaveHold.Retired f := by
  have judge : ∀ t : State, t.Retired f → t.judgeAtStart.Retired f := by
    intro t ht
    rcases t.judgeAtStart_cases with ⟨c, -, h⟩ | ⟨-, -, h⟩ | ⟨-, -, h⟩ <;> rw [h]
    · exact ht.declare c
    · exact ht.congr (by simp) (State.fan_congr (by simp) f)
    · exact ht
  unfold State.tryLeaveHold
  split
  · rw [State.leaveHold, State.startEvaluation_eq]
    exact judge _ ((h.enterMode .listen).congr rfl rfl)
  · exact h

theorem State.Retired.placeClaim {s : State} {f : Fan} (h : s.Retired f) (g : Fan) : (s.placeClaim g).Retired f := by
  refine h.congr (by simp) ?_
  by_cases hg : f = g
  · subst hg
    unfold State.placeClaim
    simp only
    split
    · rw [if_neg (by exact h.claim)]; rfl
    · rfl
  · unfold State.placeClaim State.giveClaim
    simp only
    split
    · split
      · split
        · exact (State.decideClaim_fan_of_ne hg _).of_not_starting (show (s.fan f).state ≠ .starting by simp [h.stopped])
        · rfl
      · rfl
    · rfl

theorem State.Retired.finish {s : State} {f : Fan} (h : s.Retired f) : s.finish.Retired f := by
  have row : ∀ (l : List Ix4) (t : State), t.Retired f → (l.foldl (fun t k => t.driveDamper (.td k)) t).Retired f := by
    intro l
    induction l with
    | nil => exact fun _ => id
    | cons k l ih => exact fun t ht => ih _ (ht.driveDamper _)
  have extracts : s.driveExtracts.Retired f :=
    ((((h.placeClaim .A).driveDamper _).placeClaim .A).placeClaim .B).driveDamper _
  have serve : ∀ t : State, t.Retired f → t.serve.Retired f := fun t ht => ht.congr (by simp) (t.serve_fan f)
  exact serve _ (((row Ix4.all _ extracts).placeClaim .A).placeClaim .B)

end Sys2Proof.Machine
end

section
/-! The Record Store: LOAD RECORD and the completion of its write (R173). -/

namespace Sys2Proof.Machine

/-! ### What a record fits -/

/-- R172: a valid record has one fan or two. -/
theorem judgeRecord_fanCount {b : List Byte} {r : Record} (h : judgeRecord b = some r) : 1 ≤ r.fanCount := by
  unfold judgeRecord at h
  split at h
  case isFalse => cases h
  rename_i ok
  cases h
  simp only [recordOk, rangesOk, inRange, Bool.and_eq_true, decide_eq_true_eq] at ok
  have range : 1 ≤ recByte b 3 := by tauto
  exact range

/-- R87, R108: a record that fits no fan fits no extract damper for it. -/
theorem State.fits_of_unfitted {s : State} {b : List Byte} (store : s.store.record = judgeRecord b) {f : Fan}
    (h : s.fanFitted f = false) : s.fits (.ed f) = false := by
  cases hr : s.store.record with
  | none => exact State.fits_of_invalid hr _
  | some r =>
    have count : 1 ≤ r.fanCount := judgeRecord_fanCount (store.symm.trans hr)
    have cfg : s.cfg = r := by rw [State.cfg, hr]; rfl
    rw [← Bool.not_eq_true, State.fits_iff hr]
    cases f <;> simp only [State.fanFitted, cfg, decide_eq_false_iff_not] at h
    · exact absurd count h
    · rintro (k | ⟨-, two⟩ | ⟨k, hk, -⟩)
      · cases k
      · omega
      · cases hk

theorem DamperUnit.settled_fitted (u : DamperUnit) (o : Bool) (l : Limits) (e : Tu) : (u.settled o l e).fitted = u.fitted := by
  unfold DamperUnit.settled
  split
  · rfl
  · rfl
  · rfl
  · exact u.travelling_fitted o l e

/-- R108: a damper that the record fits is fitted as it is judged. -/
theorem State.judgeDampers_fits {s : State} {d : DamperId} (h : s.fits d = true) : (s.judgeDampers.damper d).fitted = true := by
  obtain ⟨y, -, -, store, -, -, judged, -⟩ := s.judgeDampers_at d
  have fits : y.fits d = true := (State.fits_congr store d).trans h
  rw [judged]
  cases fitted : (y.damper d).fitted with
  | true => rw [State.judgeDamper_fits fits fitted, fitted]
  | false =>
    rw [State.judgeDamper_new fits fitted, State.settleDamper, State.driveDamper_damper, if_pos rfl, State.driven_fitted,
      State.settleByLimits, State.moveDamper_damper, if_pos rfl, DamperUnit.settled_fitted, State.setDamper_damper, if_pos rfl]

/-! ### The fans take the record -/

theorem State.loadWindow_fan (s : State) (f g : Fan) : (s.loadWindow f).fan g =
    if g = f then { s.fan f with window := if s.fanFitted f then some s.cfg.provingWindow else none, pulses := 0, judge := false }
    else s.fan g := State.setFan_fan s f g _

theorem State.fanFitted_of_store {s t : State} (h : t.store = s.store) (f : Fan) : t.fanFitted f = s.fanFitted f := by
  cases f <;> rw [State.fanFitted, State.fanFitted, State.cfg_of_store h]

theorem State.dropUnfitted_fan_of_ne (s : State) {f g : Fan} (h : g ≠ f) : (s.dropUnfitted f).fan g = s.fan g := by
  unfold State.dropUnfitted
  simp only
  split
  · rfl
  · simp [h, State.abortClaim_fan_of_ne]

@[simp] theorem State.dropUnfitted_frame (s : State) (f : Fan) : (s.dropUnfitted f).tu = s.tu ∧
    (s.dropUnfitted f).pins = s.pins ∧ (s.dropUnfitted f).store = s.store ∧ (s.dropUnfitted f).view = s.view ∧
    (s.dropUnfitted f).fume = s.fume ∧ (s.dropUnfitted f).monitor = s.monitor ∧ (s.dropUnfitted f).zone = s.zone ∧
    (s.dropUnfitted f).dampers = s.dampers ∧ (s.dropUnfitted f).line = s.line ∧ (s.dropUnfitted f).rx = s.rx ∧
    (s.dropUnfitted f).forces = s.forces ∧ (s.dropUnfitted f).port = s.port ∧
    (s.dropUnfitted f).fans.starts = s.fans.starts := by
  unfold State.dropUnfitted
  simp only
  split <;> simp [State.setFan]

/-- R87: a fan that the record leaves not fitted is at rest. -/
theorem State.dropUnfitted_retires {s : State} {f : Fan} (unfitted : s.fanFitted f = false) (fits : s.fits (.ed f) = false) :
    (s.dropUnfitted f).Retired f := by
  obtain ⟨b, aborted⟩ := s.abortClaim_fan f
  have unit : (s.dropUnfitted f).fan f = FanUnit.enter
      { s.fan f with claim := (s.fan f).claim.aborted, cause := none, backoff := none, rundown := none } .stopped := by
    rw [State.dropUnfitted, if_neg (by simp [unfitted])]
    simp [aborted]
  have store : (s.dropUnfitted f).store = s.store := by simp
  refine ⟨(State.fanFitted_of_store store f).trans unfitted, (State.fits_congr store _).trans fits, by rw [unit]; rfl,
    by rw [unit]; rfl, ?_⟩
  rw [unit]
  exact ClaimState.aborted_ne_waiting _

theorem State.Retired.dropUnfitted {s : State} {f : Fan} (h : s.Retired f) (g : Fan) : (s.dropUnfitted g).Retired f := by
  by_cases hg : f = g
  · subst hg
    exact State.dropUnfitted_retires h.fitted h.fits
  · exact h.congr (by simp) (s.dropUnfitted_fan_of_ne hg)

theorem State.Retired.loadWindow {s : State} {f : Fan} (h : s.Retired f) (g : Fan) : (s.loadWindow g).Retired f := by
  obtain ⟨fitted, fits, stopped, cause, claim⟩ := h
  have same : ((s.loadWindow g).fan f).state = (s.fan f).state ∧ ((s.loadWindow g).fan f).cause = (s.fan f).cause ∧
      ((s.loadWindow g).fan f).claim = (s.fan f).claim := by
    rw [State.loadWindow_fan]
    by_cases hg : f = g
    · subst hg; rw [if_pos rfl]; exact ⟨rfl, rfl, rfl⟩
    · rw [if_neg hg]; exact ⟨rfl, rfl, rfl⟩
  obtain ⟨sameState, sameCause, sameClaim⟩ := same
  have store : (s.loadWindow g).store = s.store := rfl
  exact ⟨(State.fanFitted_of_store store f).trans fitted, (State.fits_congr store _).trans fits, by rw [sameState, stopped],
    by rw [sameCause, cause], by rw [sameClaim]; exact claim⟩

/-- R87, R88, R104: what the fans' new record leaves of the other blocks. -/
theorem State.takeFans_frame (s : State) : s.takeFans.tu = s.tu ∧ s.takeFans.pins = s.pins ∧ s.takeFans.store = s.store ∧
    s.takeFans.view = s.view ∧ s.takeFans.fume = s.fume ∧ s.takeFans.monitor = s.monitor ∧ s.takeFans.zone = s.zone ∧
    s.takeFans.line = s.line ∧ s.takeFans.rx = s.rx ∧ s.takeFans.forces = s.forces ∧ s.takeFans.port = s.port := by
  obtain ⟨c, hc⟩ : ∃ c : State, c = (({ s with fans := { s.fans with starts := [] } } : State).dropUnfitted .A).dropUnfitted .B :=
    ⟨_, rfl⟩
  have frame : c.tu = s.tu ∧ c.pins = s.pins ∧ c.store = s.store ∧ c.view = s.view ∧ c.fume = s.fume ∧
      c.monitor = s.monitor ∧ c.zone = s.zone ∧ c.line = s.line ∧ c.rx = s.rx ∧ c.forces = s.forces ∧ c.port = s.port := by
    rw [hc]; simp
  have whole : s.takeFans = ((c.loadWindow .A).loadWindow .B).fmaxChanged.stage := by rw [hc]; rfl
  rw [whole]
  simp only [State.stage_frame, State.fmaxChanged_frame]
  exact frame

/-- R87, R98, R104: the fans as a new record finds them. -/
theorem State.takeFans_spec {s : State} {b : List Byte} (store : s.store.record = judgeRecord b) :
    s.takeFans.fans.starts = [] ∧ s.takeFans.share.requested = true ∧ (∀ f, (s.takeFans.fan f).Unproved) ∧
    ∀ f, s.fanFitted f = false → s.takeFans.Retired f := by
  obtain ⟨a, ha⟩ : ∃ a : State, a = { s with fans := { s.fans with starts := [] } } := ⟨_, rfl⟩
  have astore : a.store = s.store := by rw [ha]
  have astarts : a.fans.starts = [] := by rw [ha]
  obtain ⟨v, hv⟩ : ∃ v, v = (((a.dropUnfitted .A).dropUnfitted .B).loadWindow .A).loadWindow .B := ⟨_, rfl⟩
  have whole : s.takeFans = v.fmaxChanged.stage := by rw [hv, ha]; rfl
  have vstarts : v.fans.starts = [] := by
    have same : v.fans.starts = ((a.dropUnfitted .A).dropUnfitted .B).fans.starts := by rw [hv]; rfl
    rw [same]
    simp [astarts]
  have unproved : ∀ f, (v.fan f).Unproved := fun f => by
    rw [hv]
    cases f <;> simp only [State.loadWindow_fan] <;> exact ⟨rfl, rfl⟩
  rw [whole]
  refine ⟨by simp [vstarts], by simp, fun f => ?_, fun f unfitted => ?_⟩
  · refine (unproved f).of_marks ?_
    exact State.SameMarks.trans (t := v.fmaxChanged) (.of_fans (by simp)) (.stage _) f
  · have aunfitted : a.fanFitted f = false := (State.fanFitted_of_store astore f).trans unfitted
    have afits : a.fits (.ed f) = false := State.fits_of_unfitted (by rw [astore, store]) aunfitted
    have dropped : ((a.dropUnfitted .A).dropUnfitted .B).Retired f := by
      cases f with
      | A => exact (State.dropUnfitted_retires aunfitted afits).dropUnfitted .B
      | B =>
        have same : (a.dropUnfitted .A).store = a.store := by simp
        exact State.dropUnfitted_retires ((State.fanFitted_of_store same .B).trans aunfitted)
          ((State.fits_congr same _).trans afits)
    have loaded : v.Retired f := by rw [hv]; exact (dropped.loadWindow .A).loadWindow .B
    exact State.Retired.stage (loaded.congr (by simp) (by simp))

/-! ### The blocks that take the record -/

/-- R173: the view, the share and the Fume Monitor as a new record finds them. -/
def State.takeSensing (s : State) (w : WriteJob) : State := (s.storeRecord w).emptyViewOrHold.requestPass.reinitFume

theorem State.takeRecord_eq (s : State) (w : WriteJob) :
    s.takeRecord w = (s.takeSensing w).takeFans.judgeDampers.emptyFifos.tryLeaveHold := rfl

theorem State.takeSensing_spec (s : State) (w : WriteJob) :
    (s.takeSensing w).tu = s.tu ∧ (s.takeSensing w).pins = s.pins ∧
    (s.takeSensing w).store = { bytes := w.bytes, record := judgeRecord w.bytes, writing := none } ∧
    (s.takeSensing w).monitor = s.monitor ∧ (s.takeSensing w).zone = s.zone ∧ (s.takeSensing w).line = s.line ∧
    (s.takeSensing w).rx = s.rx ∧ (s.takeSensing w).forces = s.forces ∧ (s.takeSensing w).port = s.port ∧
    (s.takeSensing w).fume = { s.fume with channels := Quad.all FumeChannel.initial, index := 0, cls := .idle } ∧
    (s.share.pass = none → (s.takeSensing w).view.entries = []) ∧
    (s.share.pass ≠ none → (s.takeSensing w).view = { s.view with pendingEmpty := true }) := by
  obtain ⟨v, hv⟩ : ∃ v, v = s.storeRecord w := ⟨_, rfl⟩
  have vsame : v.tu = s.tu ∧ v.pins = s.pins ∧ v.store = { bytes := w.bytes, record := judgeRecord w.bytes, writing := none } ∧
      v.monitor = s.monitor ∧ v.zone = s.zone ∧ v.line = s.line ∧ v.rx = s.rx ∧ v.forces = s.forces ∧ v.port = s.port ∧
      v.fume = s.fume ∧ v.view = s.view ∧ v.frozen = s.frozen := by
    rw [hv]; exact ⟨rfl, rfl, rfl, rfl, rfl, rfl, rfl, rfl, rfl, rfl, rfl, rfl⟩
  obtain ⟨vtu, vpins, vstore, vmonitor, vzone, vline, vrx, vforces, vport, vfume, vview, vfrozen⟩ := vsame
  have emptied : v.emptyViewOrHold.tu = v.tu ∧ v.emptyViewOrHold.pins = v.pins ∧ v.emptyViewOrHold.store = v.store ∧
      v.emptyViewOrHold.monitor = v.monitor ∧ v.emptyViewOrHold.zone = v.zone ∧ v.emptyViewOrHold.line = v.line ∧
      v.emptyViewOrHold.rx = v.rx ∧ v.emptyViewOrHold.forces = v.forces ∧ v.emptyViewOrHold.port = v.port ∧
      v.emptyViewOrHold.fume = v.fume := by
    unfold State.emptyViewOrHold State.emptyView
    simp only
    (repeat' split) <;> exact ⟨rfl, rfl, rfl, rfl, rfl, rfl, rfl, rfl, rfl, rfl⟩
  obtain ⟨etu, epins, estore, emonitor, ezone, eline, erx, eforces, eport, efume⟩ := emptied
  have whole : s.takeSensing w = v.emptyViewOrHold.requestPass.reinitFume := by rw [hv]; rfl
  have view : (s.takeSensing w).view = v.emptyViewOrHold.view := by
    rw [whole]; simp [State.reinitFume, State.requestPass]
  rw [view, whole]
  simp only [State.reinitFume, State.requestPass, State.recompute_frame, etu, epins, estore, emonitor, ezone, eline, erx, eforces,
    eport, efume, vtu, vpins, vstore, vmonitor, vzone, vline, vrx, vforces, vport, vfume, true_and]
  refine ⟨fun free => ?_, fun busy => ?_⟩
  · have thawed : v.frozen = false := by rw [vfrozen, State.frozen, free]; rfl
    rw [State.emptyViewOrHold, if_neg (by simp [thawed]), State.emptyView]
    split <;> rfl
  · have frozen : v.frozen = true := by rw [vfrozen, State.frozen, Option.isSome_iff_ne_none]; exact busy
    rw [State.emptyViewOrHold, if_pos frozen, ← vview]

theorem State.emptyFifos_frame (s : State) : s.emptyFifos.tu = s.tu ∧ s.emptyFifos.pins = s.pins ∧
    s.emptyFifos.store = s.store ∧ s.emptyFifos.view = s.view ∧ s.emptyFifos.fume = s.fume ∧
    s.emptyFifos.monitor = s.monitor ∧ s.emptyFifos.zone = s.zone ∧ s.emptyFifos.line = s.line ∧
    s.emptyFifos.rx = { s.rx with fifoA := [], fifoB := [] } ∧ s.emptyFifos.forces = s.forces ∧
    s.emptyFifos.port = s.port ∧ s.emptyFifos.fans = s.fans ∧ s.emptyFifos.dampers = s.dampers ∧
    s.emptyFifos.share = s.share := ⟨rfl, rfl, rfl, rfl, rfl, rfl, rfl, rfl, rfl, rfl, rfl, rfl, rfl, rfl⟩

/-- R72: HOLD is left for LISTEN, or for FIRE, with evaluation on and no force. -/
theorem State.leaveHold_spec (s : State) : (s.leaveHold.zone.mode = .listen ∨ s.leaveHold.zone.mode = .fire) ∧
    s.leaveHold.monitor.evaluation = true ∧ s.leaveHold.forces = Forces.clear := by
  obtain ⟨forces, zone, -⟩ := s.enterListen_spec
  obtain ⟨kzone, kforces, kevaluation, -⟩ := (s.enterMode .listen).evaluated.judgeAtStart_keeps forces
  rw [State.leaveHold, State.startEvaluation_eq]
  refine ⟨?_, kevaluation, kforces⟩
  rcases kzone with hz | hz <;> rw [hz]
  · exact .inl (congrArg Zone.mode zone)
  · exact .inr rfl

/-- Settles O54: the request judged, and the blocks in the order in which they take the record. -/
theorem loadRecordTakesEffectInOneEvent : Obligations.LoadRecordTakesEffectInOneEvent := by
  refine ⟨fun s u dt req h hu hears len => ?_, fun s u dt w h hu writing reach => ?_⟩
  · have start : exec (.loadRecord dt req) s = .next (if u.charNow.loadOutcome req.data = .ok
        then u.charNow.startWrite req.data else u.charNow.respond 0x40 (u.charNow.loadOutcome req.data) []) := by
      rw [exec_loadRecord h, hu, State.request_heard hears (by omega) len]
    refine ⟨fun bad => ?_, fun ok mode => ?_, fun ok mode => ?_⟩
    · have outcome : u.charNow.loadOutcome req.data = .badArg := by simp [State.loadOutcome, bad]
      rw [start, outcome, if_neg (by decide), State.charNow_respond]
    · have outcome : u.charNow.loadOutcome req.data = .refusedMode := by
        simp only [State.loadOutcome, ok]
        exact if_pos mode
      rw [start, outcome, if_neg (by decide), State.charNow_respond]
    · have outcome : u.charNow.loadOutcome req.data = .ok := by
        simp only [State.loadOutcome, ok]
        exact if_neg (not_not.mpr mode)
      rw [start, outcome, if_pos rfl]
      rfl
  have start : exec (.recordWriteComplete dt) s = .next ((u.takeRecord w).respond 0x40 .ok []).finish := by
    have done : reached u.tu (tuAfter w.started Config.shortestJobTu) = true := reach
    simp only [exec, execRecordWriteComplete, live_released _ _ _ h, hu, writing, done, if_true]
  obtain ⟨c, hc⟩ : ∃ c, c = u.takeSensing w := ⟨_, rfl⟩
  have cspec := u.takeSensing_spec w
  rw [← hc] at cspec
  obtain ⟨ctu, cpins, cstore, cmonitor, czone, cline, crx, cforces, cport, cfume, cthawed, cfrozen⟩ := cspec
  obtain ⟨d, hd⟩ : ∃ d, d = c.takeFans := ⟨_, rfl⟩
  have dframe := c.takeFans_frame
  obtain ⟨starts, requested, unproved, retired⟩ := State.takeFans_spec (s := c) (b := w.bytes) (by rw [cstore])
  rw [← hd] at dframe starts requested unproved retired
  obtain ⟨dtu, dpins, dstore, dview, dfume, dmonitor, dzone, dline, drx, dforces, dport⟩ := dframe
  obtain ⟨e, he⟩ : ∃ e, e = d.judgeDampers.emptyFifos := ⟨_, rfl⟩
  have eframe := d.judgeDampers.emptyFifos_frame
  rw [← he] at eframe
  simp only [State.judgeDampers_frame, dtu, dpins, dstore, dview, dfume, dmonitor, dzone, dline, drx, dforces, dport, ctu, cpins,
    cstore, cmonitor, czone, cline, crx, cforces, cport, cfume] at eframe
  obtain ⟨etu, epins, estore, eview, efume, emonitor, ezone, eline, erx, eforces, eport, efans, edampers, eshare⟩ := eframe
  obtain ⟨z, hz⟩ : ∃ z, z = e.tryLeaveHold.respond 0x40 .ok [] := ⟨_, rfl⟩
  have record : u.takeRecord w = e.tryLeaveHold := by rw [State.takeRecord_eq, ← hc, ← hd, ← he]
  rw [record, ← hz] at start
  have zframe : z.tu = u.tu ∧ z.pins = u.pins ∧ z.line = u.line ∧ z.view = c.view ∧
      z.store = { bytes := w.bytes, record := judgeRecord w.bytes, writing := none } ∧
      z.rx = { u.rx with fifoA := [], fifoB := [] } ∧
      z.fume = { u.fume with channels := Quad.all FumeChannel.initial, index := 0, cls := .idle } ∧
      z.port = { u.port with state := .ready, chars := [], busy := true, response := responseChars 0x40 .ok [] } := by
    rw [hz]; simp [etu, epins, eline, eview, estore, erx, efume, eport]
  obtain ⟨ztu, zpins, zline, zview, zstore, zrx, zfume, zport⟩ := zframe
  have unplaced : d.Unplaced z := by
    rw [hz]
    refine (State.Unplaced.judgeDampers d).trans (State.Unplaced.trans (t := e) (.of_fans efans fun k => by rw [eshare, k]) ?_)
    exact (State.Unplaced.tryLeaveHold e).trans (.of_fans (by simp) (by simp))
  have zstarts : z.fans.starts = [] := unplaced.starts.trans starts
  have placed := State.Placed.finish z
  have cfg : z.finish.cfg = z.cfg := State.cfg_of_store (by simp)
  have fitted : ∀ f, z.finish.fanFitted f = c.fanFitted f := State.fanFitted_of_store (by simp [zstore, cstore])
  have fits : ∀ k, z.finish.fits k = d.fits k := State.fits_congr (by simp [zstore, dstore, cstore])
  have zdamper : ∀ k, z.damper k = d.judgeDampers.damper k := fun k => by
    rw [hz]; exact State.damper_congr (by simp [edampers]) k
  have unfitted : ∀ k, d.fits k = false → z.finish.damper k = DamperUnit.unfitted := fun k off => by
    have own : z.damper k = DamperUnit.unfitted := (zdamper k).trans (State.judgeDampers_unfit off)
    rw [State.finish_damper, State.driven_of_follow (fun hf => by rw [own] at hf; cases hf), own]
  refine ⟨_, start, by simp [zstore], by simp [zport], fun x hx => ?_, fun free => ?_, by simp [zrx], fun free => ?_,
    fun busy => ?_, by simp [zfume], State.finish_of_requested (unplaced.requested requested), fun f off => ?_, fun f on => ?_,
    fun k => ?_, fun k off => ?_, fun mode hold => ?_, fun mode hold valid => ?_, by simp [zline], by simp [zpins], by simp [ztu]⟩
  · rw [cfg, ← ztu]
    refine (placed.own x hx).resolve_left ?_
    rw [zstarts]
    exact List.not_mem_nil
  · exact (placed.alone (by rw [zline, free])).trans zstarts
  · simp [zview, cthawed free]
  · simp [zview, cfrozen busy]
  · rw [fitted] at off
    have rest := (retired f off).judgeDampers
    have erest : e.Retired f := rest.congr (by rw [estore]; simp [dstore, cstore]) (State.fan_congr efans f)
    have zrest : z.Retired f := by
      rw [hz]; exact erest.tryLeaveHold.congr (by simp) (State.fan_congr (by simp) f)
    exact ⟨zrest.finish.stopped, zrest.finish.cause⟩
  · exact (unplaced.unproved f (unproved f)).of_marks (State.SameMarks.finish z f)
  · rw [fits]
    cases hf : d.fits k with
    | false => rw [unfitted k hf]; rfl
    | true => rw [State.finish_damper, State.driven_fitted, zdamper, State.judgeDampers_fits hf]
  · exact unfitted k ((fits k).symm.trans off)
  · have stays : e.tryLeaveHold = e := if_neg (by rw [State.mayLeaveHold_iff, epins, hold]; simp)
    rw [hz, stays]
    simp [ezone, eforces, emonitor]
  · have valid' : e.recordValid = true := by
      rw [← valid, State.recordValid, State.recordValid]
      simp [zstore, estore]
    have leaves : e.tryLeaveHold = e.leaveHold := if_pos (e.mayLeaveHold_iff.mpr
      ⟨by rw [ezone, mode], by rw [epins, hold], valid', by rw [estore]⟩)
    rw [hz, leaves]
    simp only [State.finish_frame, State.respond_frame]
    exact e.leaveHold_spec

end Sys2Proof.Machine
end

section
/-! The completion of a pass (R28 to R34). -/

namespace Sys2Proof.Machine

/-! ### The target and the staging count stand between stagings -/

/-- R89: the target and the staging count as they stood. -/
def State.SameStaging (s t : State) : Prop := t.fans.target = s.fans.target ∧ t.fans.staging = s.fans.staging

theorem State.SameStaging.of_fans {s t : State} (h : t.fans = s.fans) : s.SameStaging t := by simp [State.SameStaging, h]

theorem State.SameStaging.trans {s t u : State} (h : s.SameStaging t) (k : t.SameStaging u) : s.SameStaging u :=
  ⟨k.1.trans h.1, k.2.trans h.2⟩

theorem State.SameStaging.moveFan (s : State) (f : Fan) (st : FanState) : s.SameStaging (s.moveFan f st) := by
  simp [State.SameStaging]

theorem State.SameStaging.setFan (s : State) (f : Fan) (u : FanUnit) : s.SameStaging (s.setFan f u) := ⟨rfl, rfl⟩

theorem State.SameStaging.startClaim (s : State) (f : Fan) : s.SameStaging (s.startClaim f) := by
  unfold State.startClaim
  split <;> exact ⟨rfl, rfl⟩

theorem State.SameStaging.abortClaim (s : State) (f : Fan) : s.SameStaging (s.abortClaim f) := by
  unfold State.abortClaim
  split <;> exact ⟨rfl, rfl⟩

theorem State.SameStaging.leaveStopped (s : State) (f : Fan) : s.SameStaging (s.leaveStopped f) := by
  unfold State.leaveStopped
  split
  · exact (State.SameStaging.moveFan s f _).trans (.startClaim _ f)
  · exact ⟨rfl, rfl⟩
  · exact .moveFan s f _

theorem State.SameStaging.endRundown (s : State) (f : Fan) : s.SameStaging (s.endRundown f) := by
  have down : s.SameStaging (s.ranDown f) := (State.SameStaging.setFan s f _).trans (.moveFan _ f _)
  rw [State.endRundown_eq]
  split
  · exact down.trans (.leaveStopped _ f)
  · exact down

theorem State.SameStaging.enterRundown (s : State) (f : Fan) : s.SameStaging (s.enterRundown f) := by
  have timer : ∀ u, s.SameStaging ((s.moveFan f .rundown).setFan f u) := fun u =>
    (State.SameStaging.moveFan s f _).trans (.setFan _ f u)
  unfold State.enterRundown
  simp only
  split
  · exact (timer _).trans (.endRundown _ f)
  · exact timer _

theorem State.SameStaging.answerNeed (s : State) (f : Fan) : s.SameStaging (s.answerNeed f) := by
  unfold State.answerNeed
  split
  · split
    · exact .leaveStopped s f
    · exact ⟨rfl, rfl⟩
  · split
    · exact .moveFan s f _
    · exact (State.SameStaging.abortClaim s f).trans (.moveFan _ f _)
    · exact .enterRundown s f
    · exact .enterRundown s f
    · exact ⟨rfl, rfl⟩

/-- R89: what staging makes of the count. -/
theorem State.stage_count (s : State) : s.stage.fans.target = s.fans.target ∧
    s.stage.fans.staging = stagingFor s.availableCount s.fans.target s.fans.staging := by
  obtain ⟨v, hv⟩ : ∃ v : State, v = { s with fans := { s.fans with
    staging := stagingFor s.availableCount s.fans.target s.fans.staging } } := ⟨_, rfl⟩
  obtain ⟨target, staging⟩ := (State.SameStaging.answerNeed v .A).trans (.answerNeed _ .B)
  have whole : s.stage = (v.answerNeed .A).answerNeed .B := by rw [hv]; rfl
  rw [whole, target, staging, hv]
  exact ⟨rfl, rfl⟩

theorem State.SameStaging.handRemoval (s : State) (e : ClaimEntry) : s.SameStaging (s.handRemoval e) := by
  unfold State.handRemoval
  split
  · exact .moveFan s _ _
  · exact ⟨rfl, rfl⟩

theorem State.SameStaging.takeEntry (s : State) (e : ClaimEntry) : s.SameStaging (s.takeEntry e) := by
  have list : ∀ (t : State) (l : List ClaimEntry), t.SameStaging { t with fans := { t.fans with starts := l } } :=
    fun _ _ => ⟨rfl, rfl⟩
  have drop : s.SameStaging (s.dropSame e) := by
    unfold State.dropSame
    split
    · exact (list s _).trans (.handRemoval _ e)
    · exact ⟨rfl, rfl⟩
  have append : ∀ t : State, t.SameStaging (t.appendClaim e) := by
    intro t
    unfold State.appendClaim
    split
    · exact list t _
    · split
      · exact list t _
      · exact (list t _).trans (.handRemoval _ _)
  unfold State.takeEntry
  split
  · exact drop.trans (append _)
  · exact drop

theorem State.SameStaging.placeClaim (s : State) (f : Fan) : s.SameStaging (s.placeClaim f) := by
  have mark : s.SameStaging { s with fans := { s.fans with begun := s.fans.begun.set f false } } := ⟨rfl, rfl⟩
  have decide : ∀ (t : State) (e : ClaimEntry), t.SameStaging (t.decideClaim f e) := by
    intro t e
    unfold State.decideClaim State.startFan
    split
    · split
      · exact (State.SameStaging.takeEntry t e).trans ((State.SameStaging.setFan _ f _).trans (.moveFan _ f _))
      · exact (State.SameStaging.takeEntry t e).trans (.setFan _ f _)
    · exact (State.SameStaging.takeEntry t e).trans (.setFan _ f _)
  unfold State.placeClaim
  simp only
  split
  · split
    · refine mark.trans ?_
      unfold State.giveClaim
      split
      · exact decide _ _
      · exact ⟨rfl, rfl⟩
    · exact mark
  · exact ⟨rfl, rfl⟩

theorem State.SameStaging.driveDamper (s : State) (d : DamperId) : s.SameStaging (s.driveDamper d) := by
  rw [State.driveDamper_eq]
  split
  · exact ⟨rfl, rfl⟩
  rename_i moved
  refine State.SameStaging.trans (t := s.setDamper d (s.driven d)) ⟨rfl, rfl⟩ ?_
  unfold State.moveDamper State.handDamper State.fanReachesOpen State.fanLeavesOpen
  cases d with
  | td k => exact ⟨rfl, rfl⟩
  | ed f =>
    simp only
    split
    · exact ⟨rfl, rfl⟩
    rename_i change
    rw [if_neg fun hs => change ((State.driven_stuck hs).trans hs.symm)]
    split
    · split
      · exact (State.SameStaging.moveFan _ f _).trans (.startClaim _ f)
      · exact ⟨rfl, rfl⟩
    split
    · split
      · exact .enterRundown _ f
      · exact .enterRundown _ f
      · exact (State.SameStaging.abortClaim _ f).trans (.moveFan _ f _)
      · exact ⟨rfl, rfl⟩
    · exact ⟨rfl, rfl⟩

theorem State.SameStaging.finish (s : State) : s.SameStaging s.finish := by
  have places : ∀ t : State, t.SameStaging t.placeClaims := fun t =>
    (State.SameStaging.placeClaim t .A).trans (.placeClaim _ .B)
  have row : ∀ (l : List Ix4) (t : State), t.SameStaging (l.foldl (fun t k => t.driveDamper (.td k)) t) := by
    intro l
    induction l with
    | nil => exact fun _ => ⟨rfl, rfl⟩
    | cons k l ih => exact fun t => (State.SameStaging.driveDamper t _).trans (ih _)
  have extracts : s.SameStaging s.driveExtracts :=
    (State.SameStaging.placeClaim s .A).trans ((State.SameStaging.driveDamper _ _).trans ((places _).trans (.driveDamper _ _)))
  have serve : ∀ t : State, t.SameStaging t.serve := fun t => .of_fans (by simp)
  exact extracts.trans ((row Ix4.all _).trans ((places _).trans (serve _)))

/-- R89: the staging count by the available fans. -/
theorem stagingFor_eq (target before : Nat) :
    stagingFor 2 target before = (if target = 0 then 0 else if 500 ≤ target ∨ 401 ≤ target ∧ before = 2 then 2 else 1) ∧
    stagingFor 1 target before = (if target = 0 then 0 else 1) ∧ stagingFor 0 target before = 0 := by
  refine ⟨?_, ?_, rfl⟩
  · unfold stagingFor
    simp only
    by_cases high : 500 ≤ target <;> simp only [high, if_true, if_false, true_or, false_or]
  · unfold stagingFor
    simp only
    by_cases zero : target = 0
    · simp [zero]
    · rw [if_pos (Nat.pos_of_ne_zero zero), if_neg zero]

/-! ### The results -/

/-- R29: the sums of a pass, as a statement writes them. -/
theorem classSum_eq {es : List PeerEntry} {p : Sampled} {S : DemandClass → Nat}
    (h : ∀ k, S k = ((es.filter fun e => (decide (e.fresh ≠ .lost) || decide (e.cls = .fire)) && decide (e.cls = k)).map
      fun e => e.demand).sum + (if p.cls = k then p.demand else 0)) : classSum es p = S :=
  funext fun k => (h k).symm

theorem classesAbove_eq (c : DemandClass) :
    classesAbove c = [DemandClass.fire, .contain, .fume3, .fume2, .fume1].filter fun k => decide (c.num < k.num) := by
  cases c <;> rfl

/-- R33: the result flag by the demand and the grant. -/
theorem resultFlag_iff (demand grant : Nat) :
    (resultFlag demand grant = .nil ↔ demand = 0) ∧ (resultFlag demand grant = .full ↔ 0 < demand ∧ grant = demand) ∧
    (resultFlag demand grant = .none ↔ 0 < demand ∧ grant = 0) := by
  unfold resultFlag
  by_cases zero : demand = 0
  · simp [zero]
  have some : 0 < demand := Nat.pos_of_ne_zero zero
  by_cases full : grant = demand
  · simp [full, zero, some]
  by_cases none : grant = 0
  · simp [none, zero, some, Ne.symm zero]
  · simp [full, zero, none]

theorem ResultFlag.isShort_iff (r : ResultFlag) : r.isShort = true ↔ r = .short ∨ r = .none := by
  cases r <;> simp [ResultFlag.isShort]

/-! ### What the freeze held -/

theorem State.sweepNow_spec (s : State) :
    s.sweepNow = s ∧ s.view.entries.filterMap (sweepEntry s.tu) = s.view.entries ∨
    s.sweepNow = (s.setEntries (s.view.entries.filterMap (sweepEntry s.tu))).requestPass ∧
      s.view.entries.filterMap (sweepEntry s.tu) ≠ s.view.entries := by
  rw [State.sweepNow_eq]
  by_cases same : s.view.entries.filterMap (sweepEntry s.tu) = s.view.entries
  · exact .inl ⟨if_pos same, same⟩
  · exact .inr ⟨if_neg same, same⟩

/-- R14, R16, R20: the table, and whether a pass is requested, once the view is unfrozen. -/
theorem State.unfreeze_spec (s : State) (aged : List PeerEntry) (h : s.view.entries.filterMap (sweepEntry s.tu) = aged)
    (idle : s.share.requested = false) : ∃ es r, s.unfreeze = { s with
        view := { s.view with entries := es, pendingSweep := false, pendingEmpty := false }
        share := { s.share with pass := none, requested := r } } ∧
      es = (if s.view.pendingEmpty then [] else if s.view.pendingSweep then aged else s.view.entries) ∧
      (r = true ↔ s.view.pendingSweep = true ∧ aged ≠ s.view.entries ∨ s.view.pendingEmpty = true ∧
        (if s.view.pendingSweep then aged else s.view.entries) ≠ []) := by
  obtain ⟨v, hv⟩ : ∃ v : State, v = { s with share := { s.share with pass := none }
                                             view := { s.view with pendingSweep := false } } := ⟨_, rfl⟩
  have whole : s.unfreeze = if s.view.pendingEmpty then (if s.view.pendingSweep then v.sweepNow else v).emptyView
      else if s.view.pendingSweep then v.sweepNow else v := by rw [hv]; rfl
  have empty : ∀ t : State, t.emptyView = { t with
      view := { t.view with entries := [], pendingEmpty := false }
      share := { t.share with requested := t.share.requested || !decide (t.view.entries = []) } } := by
    intro t
    unfold State.emptyView State.requestPass
    by_cases none : t.view.entries = [] <;> simp [none]
  have vage : v.view.entries.filterMap (sweepEntry v.tu) = aged := by rw [hv]; exact h
  have ventries : v.view.entries = s.view.entries := by rw [hv]
  have swept : (if s.view.pendingSweep then v.sweepNow else v) = { s with
      share := { s.share with pass := none, requested := s.view.pendingSweep && !decide (aged = s.view.entries) }
      view := { s.view with pendingSweep := false, entries := if s.view.pendingSweep then aged else s.view.entries } } := by
    cases hp : s.view.pendingSweep with
    | false => simp [hv, idle]
    | true =>
      rcases v.sweepNow_spec with ⟨same, stay⟩ | ⟨moved, change⟩
      · rw [vage, ventries] at stay
        rw [same]
        simp [stay, hv, idle]
      · rw [vage, ventries] at change
        rw [vage] at moved
        rw [moved]
        simp [change, hv, State.setEntries, State.requestPass]
  rw [whole, swept, empty]
  cases he : s.view.pendingEmpty with
  | false =>
    refine ⟨if s.view.pendingSweep then aged else s.view.entries, s.view.pendingSweep && !decide (aged = s.view.entries), ?_,
      by simp, by simp⟩
    simp [he]
  | true =>
    refine ⟨[], (s.view.pendingSweep && !decide (aged = s.view.entries)) ||
      !decide ((if s.view.pendingSweep then aged else s.view.entries) = []), ?_, by simp, by simp⟩
    simp

end Sys2Proof.Machine
end

section
/-! PASS_COMPLETE in its steps (R28), and what the grants of a depot add up to (section 2.7). -/

namespace Sys2Proof.Machine

/-- R28, step 1: what publishing leaves. -/
theorem State.publish_spec (s : State) (r : Results) :
    (s.publish r).share = { s.share with results := r, shortFlag := r.flag.isShort } ∧ (s.publish r).fans = s.fans ∧
    (s.publish r).tu = s.tu ∧ (s.publish r).pins = s.pins ∧ (s.publish r).store = s.store ∧ (s.publish r).view = s.view ∧
    (s.publish r).fume = s.fume ∧ (s.publish r).monitor = s.monitor ∧ (s.publish r).zone = s.zone ∧
    (s.publish r).line = s.line ∧ (s.publish r).rx = s.rx ∧ (s.publish r).forces = s.forces ∧ (s.publish r).port = s.port ∧
    (s.publish r).tx.urgent = s.tx.urgent := by
  unfold State.publish
  simp only
  split
  · exact ⟨rfl, rfl, rfl, rfl, rfl, rfl, rfl, rfl, rfl, rfl, rfl, rfl, rfl, rfl⟩
  · simp

/-- R28, step 2, R89: what the hand-over of t leaves. -/
theorem State.handTarget_spec (s : State) (t : Nat) : (s.handTarget t).fans.target = t ∧
    (s.handTarget t).fans.staging = stagingFor s.availableCount t s.fans.staging ∧ (s.handTarget t).share = s.share ∧
    (s.handTarget t).tu = s.tu ∧ (s.handTarget t).pins = s.pins ∧ (s.handTarget t).store = s.store ∧
    (s.handTarget t).view = s.view ∧ (s.handTarget t).fume = s.fume ∧ (s.handTarget t).monitor = s.monitor ∧
    (s.handTarget t).zone = s.zone ∧ (s.handTarget t).line = s.line ∧ (s.handTarget t).rx = s.rx ∧
    (s.handTarget t).forces = s.forces ∧ (s.handTarget t).port = s.port ∧ (s.handTarget t).tx.urgent = s.tx.urgent := by
  obtain ⟨target, staging⟩ := State.stage_count { s with fans := { s.fans with target := t } }
  refine ⟨target, staging, ?_⟩
  simp [State.handTarget]

/-- R28, step 4: the requests of the event and pass-again. -/
theorem State.gatherAgain_eq (s : State) : s.gatherAgain =
    { s with share := { s.share with requested := s.share.requested || s.share.again, again := false } } := rfl

/-- R27, R28: the pass that the end of an event starts where the Share Computer is IDLE. -/
theorem State.finish_starts {s : State} (idle : s.share.pass = none) (valid : s.recordValid = true)
    (requested : s.share.requested = true) : ∃ q, s.finish.share.pass = some q ∧ q.started = s.tu ∧
      q.cls = s.share.cls ∧ q.demand = s.share.demand ∧ s.finish.share.again = false := by
  have same : s.driveDampers.placeClaims.share = s.share := by simp
  have good : s.driveDampers.placeClaims.recordValid = true := by rw [← valid]; simp [State.recordValid]
  have tu : s.driveDampers.placeClaims.tu = s.tu := by simp
  have starts := (State.serve_of_request _ (by rw [same, requested])).1 (by rw [same, idle]) good
  rw [State.finish, starts]
  exact ⟨_, rfl, tu, by rw [same], by rw [same], rfl⟩

theorem View.thawed_eq {w : View} (sweep : w.pendingSweep = false) (empty : w.pendingEmpty = false) :
    { w with pendingSweep := false, pendingEmpty := false } = w := by
  obtain ⟨es, refused, p, q⟩ := w
  obtain rfl : p = false := sweep
  obtain rfl : q = false := empty
  rfl

/-- Settles O27: the results published, t handed over, the view unfrozen and pass-again gathered. -/
theorem passPublishesItsResults : Obligations.PassPublishesItsResults := by
  intro s u dt p S es h hu hes pass requested reach hS
  obtain ⟨r, hr⟩ : ∃ r, r = passResults u.view.entries p := ⟨_, rfl⟩
  have start : exec (.passComplete dt) s = .next ((u.publish r).handTarget r.t).unfreeze.gatherAgain.finish := by
    have done : reached u.tu (tuAfter p.started Config.shortestJobTu) = true := reach
    simp only [exec, execPassComplete, live_released _ _ _ h, hu, pass, done, if_true, hr]
  obtain ⟨v, hv⟩ : ∃ v, v = (u.publish r).handTarget r.t := ⟨_, rfl⟩
  obtain ⟨pshare, pfans, ptu, ppins, pstore, pview, pfume, pmonitor, pzone, pline, prx, pforces, pport, purgent⟩ :=
    u.publish_spec r
  have vspec := (u.publish r).handTarget_spec r.t
  have count : (u.publish r).availableCount = u.availableCount :=
    State.SameFaults.availableCount (.of_states fun g => by rw [State.fan_congr pfans]) (State.cfg_of_store pstore)
  rw [← hv, pshare, pfans, ptu, ppins, pstore, pview, pfume, pmonitor, pzone, pline, prx, pforces, pport, purgent, count] at vspec
  obtain ⟨vtarget, vstaging, vshare, vtu, vpins, vstore, vview, vfume, vmonitor, vzone, vline, vrx, vforces, vport, vurgent⟩ :=
    vspec
  have aged : v.view.entries.filterMap (sweepEntry v.tu) = es := by
    rw [vview, vtu, ← hes]
    exact congrArg (fun f => u.view.entries.filterMap f) (funext fun e => sweepEntry_eq u.tu e)
  obtain ⟨ds, q, thawed, hds, hq⟩ := v.unfreeze_spec es aged (by rw [vshare]; exact requested)
  rw [vview] at hds hq
  obtain ⟨z, hz⟩ : ∃ z, z = v.unfreeze.gatherAgain := ⟨_, rfl⟩
  rw [← hv, ← hz] at start
  have zfields : z.share = { u.share with results := r, shortFlag := r.flag.isShort, pass := none, again := false
                                          requested := q || u.share.again } ∧
      z.view = { u.view with entries := ds, pendingSweep := false, pendingEmpty := false } ∧ z.fans = v.fans ∧
      z.tu = u.tu ∧ z.pins = u.pins ∧ z.store = u.store ∧ z.fume = u.fume ∧ z.monitor = u.monitor ∧ z.zone = u.zone ∧
      z.line = u.line ∧ z.rx = u.rx ∧ z.forces = u.forces ∧ z.port = u.port ∧ z.tx.urgent = u.tx.urgent := by
    rw [hz, State.gatherAgain_eq, thawed]
    simp only [vshare, vview, vtu, vpins, vstore, vfume, vmonitor, vzone, vline, vrx, vforces, vport, vurgent, and_self]
  obtain ⟨zshare, zview, zfans, ztu, zpins, zstore, zfume, zmonitor, zzone, zline, zrx, zforces, zport, zurgent⟩ := zfields
  obtain ⟨starget, sstaging⟩ := State.SameStaging.finish z
  have target : z.finish.fans.target = r.t := by rw [starget, zfans, vtarget]
  have staging : z.finish.fans.staging = stagingFor u.availableCount r.t u.fans.staging := by rw [sstaging, zfans, vstaging]
  have results : z.finish.share.results = r := by simp [zshare]
  have sums : classSum u.view.entries p = S := classSum_eq hS
  have valid : u.recordValid = true → z.recordValid = true := fun k => by rw [← k, State.recordValid, State.recordValid, zstore]
  have next : u.recordValid = true → q = true ∨ u.share.again = true → ∃ x, z.finish.share.pass = some x ∧ x.started = u.tu ∧
      x.cls = u.share.cls ∧ x.demand = u.share.demand ∧ z.finish.share.again = false := fun ok asked => by
    obtain ⟨x, started, tu, cls, demand, again⟩ := State.finish_starts (s := z) (by rw [zshare]) (valid ok)
      (by rw [zshare]; simpa using asked)
    exact ⟨x, started, by rw [tu, ztu], by rw [cls, zshare], by rw [demand, zshare], again⟩
  have rest : q = false → u.share.again = false → z.finish.share.pass = none := fun none once => by
    rw [State.finish_share_of_none (by rw [zshare, none, once]; rfl), zshare]
  obtain ⟨two, one, zero⟩ := stagingFor_eq r.t u.fans.staging
  obtain ⟨nil, full, none⟩ := resultFlag_iff p.demand (passGrant u.view.entries p)
  have tview : z.finish.view = { u.view with entries := ds, pendingSweep := false, pendingEmpty := false } := by
    simp [zview]
  have short : z.finish.share.shortFlag = r.flag.isShort := by simp [zshare]
  refine ⟨_, start, ?_, ?_, ?_, ?_, ?_, ?_, ?_, ?_, ?_, ?_, ?_, ?_, ?_, ?_, ?_, ?_, ?_, ?_, by simp [zshare], by simp [zshare],
    by simp [zzone], by simp [zfume], by simp [zmonitor], by simp [zforces], by simp [zline], by simp [zrx], by simp [zurgent],
    by simp [zstore], by simp [zpins], by simp [zport], by simp [ztu]⟩
  · rw [results, hr, ← sums]; rfl
  · rw [results, hr, ← sums, ← classesAbove_eq]; rfl
  · rw [results, hr]; rfl
  · rw [results, hr]; rfl
  · rw [results, hr]; exact nil
  · rw [results, hr]; exact full
  · rw [results, hr]; exact none
  · rw [short, results]; exact r.flag.isShort_iff
  · rw [results, hr]; rfl
  · rw [target, results]
  · intro hc; rw [staging, hc, target]; exact two
  · intro hc; rw [staging, hc, target]; exact one
  · intro hc; rw [staging, hc]; exact zero
  · intro once sweep empty
    have noq : q = false := by
      rw [← Bool.not_eq_true, hq]
      simp [sweep, empty]
    refine ⟨rest noq once, ?_⟩
    have same : ds = u.view.entries := by rw [hds, sweep, empty]; rfl
    rw [tview, same]
    exact View.thawed_eq sweep empty
  · intro again ok
    obtain ⟨x, hx, tu, cls, demand, once⟩ := next ok (.inr again)
    exact ⟨x, hx, tu, cls, demand, once⟩
  · intro sweep empty
    refine ⟨?_, fun same once => ?_, fun moved ok => ?_⟩
    · have same : ds = es := by rw [hds, sweep, empty]; rfl
      rw [tview, same, ← empty]
    · refine rest ?_ once
      rw [← Bool.not_eq_true, hq]
      simp [same, empty]
    · exact next ok (.inl (hq.mpr (.inl ⟨sweep, moved⟩)))
  · intro empty
    refine ⟨?_, fun some ok => ?_⟩
    · rw [tview, hds, empty]
      simp
    · have asked : q = true := by
        rw [hq]
        by_cases sweep : u.view.pendingSweep = true
        · by_cases moved : es = u.view.entries
          · exact .inr ⟨empty, by rw [if_pos sweep, moved]; exact some⟩
          · exact .inl ⟨sweep, moved⟩
        · exact .inr ⟨empty, by rw [if_neg sweep]; exact some⟩
      obtain ⟨x, hx, tu, -⟩ := next ok (.inl asked)
      exact ⟨x, hx, tu⟩
  · rw [tview]

end Sys2Proof.Machine
end

section
/-! The grants of a depot (R30 to R32, section 2.7): no station is granted more than it demands, and stations that count the
same records share one capacity. -/

namespace Sys2Proof.Machine

/-! ### One station's grant -/

theorem leftAfter_le (r sum : Nat) : leftAfter r sum ≤ r := by
  unfold leftAfter
  split <;> omega

/-- R30: the capacity that reaches a class. -/
def capacityAt (S : DemandClass → Nat) (C : Nat) (c : DemandClass) : Nat :=
  (classesAbove c).foldl (fun r k => leftAfter r (S k)) C

theorem remainingAt_eq (es : List PeerEntry) (p : Sampled) : remainingAt es p = capacityAt (classSum es p) p.capacity p.cls := rfl

theorem capacityAt_le (S : DemandClass → Nat) (C : Nat) (c : DemandClass) : capacityAt S C c ≤ C := by
  have row : ∀ (l : List DemandClass) (r : Nat), l.foldl (fun r k => leftAfter r (S k)) r ≤ r := by
    intro l
    induction l with
    | nil => exact fun _ => le_rfl
    | cons k l ih => exact fun r => (ih _).trans (leftAfter_le r _)
  exact row _ C

/-- R30: each class leaves the next lower one what its own sum does not take. -/
theorem capacityAt_next (S : DemandClass → Nat) (C : Nat) : capacityAt S C .fire = C ∧
    capacityAt S C .contain = leftAfter (capacityAt S C .fire) (S .fire) ∧
    capacityAt S C .fume3 = leftAfter (capacityAt S C .contain) (S .contain) ∧
    capacityAt S C .fume2 = leftAfter (capacityAt S C .fume3) (S .fume3) ∧
    capacityAt S C .fume1 = leftAfter (capacityAt S C .fume2) (S .fume2) ∧
    capacityAt S C .idle = leftAfter (capacityAt S C .fume1) (S .fume1) := ⟨rfl, rfl, rfl, rfl, rfl, rfl⟩

/-- R31: a grant of the class walk, for a demand within its class's sum. -/
theorem walkGrant_le {demand rOwn sOwn : Nat} (h : demand ≤ sOwn) :
    walkGrant demand rOwn sOwn ≤ demand ∧ walkGrant demand rOwn sOwn ≤ rOwn := by
  unfold walkGrant
  split
  · exact ⟨le_rfl, by omega⟩
  · rename_i short
    have scarce : rOwn ≤ sOwn := by omega
    exact ⟨Nat.div_le_of_le_mul ((Nat.mul_le_mul_left demand scarce).trans_eq (Nat.mul_comm _ _)),
      Nat.div_le_of_le_mul (Nat.mul_le_mul_right rOwn h)⟩

theorem demand_le_classSum (es : List PeerEntry) (p : Sampled) : p.demand ≤ classSum es p p.cls := by
  unfold classSum
  rw [if_pos rfl]
  omega

theorem passGrant_walk {es : List PeerEntry} {p : Sampled} (h : p.isolated = false) :
    passGrant es p = walkGrant p.demand (capacityAt (classSum es p) p.capacity p.cls) (classSum es p p.cls) := by
  rw [passGrant, if_neg (by simp [h]), remainingAt_eq]

theorem passGrant_isolated {es : List PeerEntry} {p : Sampled} (h : p.isolated = true) :
    passGrant es p = if p.cls = .fire then p.demand else min p.demand (p.capacity * p.share / 1000) := by
  rw [passGrant, if_pos h]
  rfl

theorem passGrant_le (es : List PeerEntry) (p : Sampled) : passGrant es p ≤ p.demand ∧
    (p.isolated = false → passGrant es p ≤ p.capacity) ∧
    (p.isolated = true → p.cls ≠ .fire → passGrant es p ≤ p.capacity * p.share / 1000) := by
  cases h : p.isolated with
  | false =>
    rw [passGrant_walk h]
    obtain ⟨demand, room⟩ := walkGrant_le (rOwn := capacityAt (classSum es p) p.capacity p.cls) (demand_le_classSum es p)
    exact ⟨demand, fun _ => room.trans (capacityAt_le _ _ _), fun k => Bool.noConfusion k⟩
  | true =>
    rw [passGrant_isolated h]
    refine ⟨?_, fun k => Bool.noConfusion k, fun _ other => ?_⟩
    · split
      · exact le_rfl
      · exact min_le_left _ _
    · rw [if_neg other]
      exact min_le_right _ _

/-! ### The grants of a depot together -/

/-- R31: the grants of one class, with what it leaves, fit the capacity that reaches it. -/
theorem walkGrant_sum_le (ds : List Nat) (r : Nat) : (ds.map fun d => walkGrant d r ds.sum).sum + leftAfter r ds.sum ≤ r := by
  unfold walkGrant leftAfter
  by_cases enough : ds.sum ≤ r
  · simp only [if_pos enough, List.map_id']
    omega
  · simp only [if_neg enough]
    have parts : ∀ (l : List Nat) (n : Nat), (l.map fun d => d * r / n).sum * n ≤ l.sum * r := by
      intro l n
      induction l with
      | nil => simp
      | cons d l ih =>
        simp only [List.map_cons, List.sum_cons, Nat.add_mul]
        exact Nat.add_le_add (Nat.div_mul_le_self _ _) ih
    have whole := parts ds ds.sum
    rw [Nat.mul_comm ds.sum r] at whole
    exact Nat.le_of_mul_le_mul_right whole (by omega)

/-- R29: the demands of a class among records of class and demand. -/
def demandsOf (l : List (DemandClass × Nat)) (k : DemandClass) : List Nat := (l.filter fun x => decide (x.1 = k)).map Prod.snd

theorem demandsOf_perm {l m : List (DemandClass × Nat)} (h : l.Perm m) (k : DemandClass) :
    (demandsOf l k).sum = (demandsOf m k).sum := ((h.filter _).map _).sum_eq

/-- R29: where no entry is LOST, S_k counts every record of class k. -/
theorem classSum_eq_demandsOf {es : List PeerEntry} (p : Sampled) (h : ∀ e ∈ es, e.fresh ≠ .lost) (k : DemandClass) :
    classSum es p k = (demandsOf ((p.cls, p.demand) :: es.map fun e => (e.cls, e.demand)) k).sum := by
  have entries : ((es.filter fun e => e.counted && decide (e.cls = k)).map PeerEntry.demand) =
      demandsOf (es.map fun e => (e.cls, e.demand)) k := by
    rw [demandsOf, List.filter_map, List.map_map]
    have same : es.filter (fun e => e.counted && decide (e.cls = k)) =
        es.filter ((fun x : DemandClass × Nat => decide (x.1 = k)) ∘ fun e => (e.cls, e.demand)) :=
      List.filter_congr fun e he => by simp [PeerEntry.counted, h e he]
    rw [same]
    rfl
  unfold classSum
  rw [entries]
  unfold demandsOf
  by_cases own : p.cls = k
  · rw [List.filter_cons_of_pos (by simpa using own), List.map_cons, List.sum_cons, if_pos own, Nat.add_comm]
  · rw [List.filter_cons_of_neg (by simpa using own), if_neg own, Nat.add_zero]

/-- A sum over records, class by class. -/
theorem sum_by_class (f : DemandClass → Nat → Nat) (l : List (DemandClass × Nat)) : (l.map fun x => f x.1 x.2).sum =
    ((demandsOf l .fire).map (f .fire)).sum + ((demandsOf l .contain).map (f .contain)).sum +
    ((demandsOf l .fume3).map (f .fume3)).sum + ((demandsOf l .fume2).map (f .fume2)).sum +
    ((demandsOf l .fume1).map (f .fume1)).sum + ((demandsOf l .idle).map (f .idle)).sum := by
  induction l with
  | nil => rfl
  | cons x l ih =>
    obtain ⟨c, d⟩ := x
    have add : ∀ k, ((demandsOf ((c, d) :: l) k).map (f k)).sum =
        (if c = k then f k d else 0) + ((demandsOf l k).map (f k)).sum := by
      intro k
      unfold demandsOf
      by_cases own : c = k
      · rw [List.filter_cons_of_pos (by simpa using own), if_pos own]
        rfl
      · rw [List.filter_cons_of_neg (by simpa using own), if_neg own, Nat.zero_add]
    rw [List.map_cons, List.sum_cons, ih]
    simp only [add]
    cases c <;> simp only [reduceCtorEq, if_true, if_false] <;> omega

/-- Section 2.7: the class walk over one list of records grants no more than the capacity. -/
theorem walkGrants_le (l : List (DemandClass × Nat)) (C : Nat) : (l.map fun x => walkGrant x.2
    (capacityAt (fun k => (demandsOf l k).sum) C x.1) (demandsOf l x.1).sum).sum ≤ C := by
  obtain ⟨S, hS⟩ : ∃ S : DemandClass → Nat, S = fun k => (demandsOf l k).sum := ⟨_, rfl⟩
  have fits : ∀ k, ((demandsOf l k).map fun d => walkGrant d (capacityAt S C k) (demandsOf l k).sum).sum +
      leftAfter (capacityAt S C k) (S k) ≤ capacityAt S C k := fun k => by
    rw [hS]
    exact walkGrant_sum_le (demandsOf l k) _
  obtain ⟨fire, contain, fume3, fume2, fume1, idle⟩ := capacityAt_next S C
  rw [← hS, sum_by_class fun k d => walkGrant d (capacityAt S C k) (demandsOf l k).sum]
  have f5 := fits .fire
  have f4 := fits .contain
  have f3 := fits .fume3
  have f2 := fits .fume2
  have f1 := fits .fume1
  have f0 := fits .idle
  omega

/-- Settles O28: the stations' sums are those of the depot's own records, whose walk fits the capacity. -/
theorem grantsFitTheTrunk : Obligations.GrantsFitTheTrunk := by
  refine ⟨passGrant_le, fun C depot same => ?_⟩
  obtain ⟨l, hl⟩ : ∃ l, l = depot.map fun y => (y.2.cls, y.2.demand) := ⟨_, rfl⟩
  have grant : ∀ x ∈ depot, passGrant x.1 x.2 =
      walkGrant x.2.demand (capacityAt (fun k => (demandsOf l k).sum) C x.2.cls) (demandsOf l x.2.cls).sum := by
    intro x hx
    obtain ⟨capacity, joined, fresh, perm⟩ := same x hx
    rw [← hl] at perm
    have sums : classSum x.1 x.2 = fun k => (demandsOf l k).sum := funext fun k =>
      (classSum_eq_demandsOf x.2 fresh k).trans (demandsOf_perm perm k)
    rw [passGrant_walk joined, sums, capacity]
  have total := walkGrants_le l C
  rw [hl, List.map_map, ← hl] at total
  rw [List.map_congr_left grant]
  exact total

end Sys2Proof.Machine
end
